-- ==== Sys2Proof/Word.lean ====
section
/-!
DEFINITION. The byte, and the plainest arithmetic on the integers of the manual (00_scope.md, "Units and arithmetic").
-/
namespace Sys2Proof

/-- One byte, as the three serial paths carry it (R192). -/
abbrev Byte := BitVec 8

/-- `clamp(x, lo, hi)` of 00_scope.md. -/
def clampInt (lo hi x : Int) : Int := if x < lo then lo else if hi < x then hi else x

/-- `clamp(x, lo, hi)` of 00_scope.md, on quantities that are never negative. -/
def clampNat (lo hi x : Nat) : Nat := if x < lo then lo else if hi < x then hi else x

/-- One more, stopping at `top`: the saturating counts of the manual. -/
def satSucc (top n : Nat) : Nat := if n < top then n + 1 else n

/-- Division of non-negative numbers rounded toward plus infinity (`ceil`). -/
def ceilDiv (a b : Nat) : Nat := (a + b - 1) / b

end Sys2Proof
end

