-- ==== Sys2Proof/Config.lean ====
section
/-!
DEFINITION. The numbers of "Numbers used throughout" (00_scope.md) and of the chapters, fixed for every part, and the
free values that stand for what the manual leaves open: an order, and the width of a pulse.
-/
namespace Sys2Proof.Config

/-- Step queue capacity (R9). -/
def queueCapacity : Nat := 32
/-- Mark queue capacity (R100). -/
def markCapacity : Nat := 4
/-- Good-sample timer of a channel and of a readback, ms (R29, R76). -/
def goodSampleMs : Nat := 2000
/-- Hold timer of a zone in LOST-HOLD, ms (R34). -/
def holdMs : Nat := 10000
/-- Period of ZM, ZC and GC, ms. -/
def periodMs : Nat := 500
/-- Interval of BD's evaluation, ms (R95). -/
def evaluationMs : Nat := 100
/-- Heater output window, ms (R64). -/
def windowMs : Nat := 1000
/-- Stagger of the zones' windows, ms (R64). -/
def staggerMs : Nat := 200
/-- Time to reach FLOW-DEVIATION, ms (R80). -/
def deviationMs : Nat := 10000
/-- Repeat timer of a setpoint record, ms (R75). -/
def repeatMs : Nat := 1000
/-- Re-clear delay of the load-area gate, ms (R89). -/
def reclearMs : Nat := 2000
/-- Mute time, ms (R141). -/
def muteMs : Nat := 5000
/-- Consecutive abandonments that bring MUTE (R137). -/
def abandonLimit : Nat := 8
/-- Debounce of the curtail inputs, ms (R147). -/
def debounceMs : Nat := 100
/-- Ack timer of a collection, ms (R150). -/
def ackMs : Nat := 500
/-- Gap that ends a frame on the local port, ms: more than this must pass (R170). -/
def gapMs : Nat := 20
/-- Recessive time that makes the bank line idle, µs: 12 bit times of 8 µs (R130). -/
def idleUs : Nat := 96
/-- A bit cell of the bank line, µs (R129). -/
def cellUs : Nat := 8
/-- The sample point in a cell of the bank line, µs (R129). -/
def sampleUs : Nat := 4
/-- Saturation of the 16-bit counts (R28, R107, R133, R171, R173) and of the done count (R26). -/
def count16 : Nat := 65535
/-- Saturation of the run clock and of the purge accumulator (R25, R78). -/
def count32 : Nat := 4294967295
/-- Largest boat position (R86). -/
def positionMax : Nat := 20000

/-- A FREE VALUE (log 44): for how long the `n`-th pulse on BSTEP is high, which the manual does not say; `stepPulseUs` in
Machine/BoatDrive.lean bounds it. It has no body: no proof can see it. -/
opaque pulseWidth : Nat → Nat

/-- DESIGN CHOICE (logs 3, 13, 16 and 35), a FREE VALUE: where the manual says that the outcome depends on which of two things is
taken first and nothing outside fixes it, the `k`-th such choice is `raceOrder k`. It has no body: no proof can see it. -/
opaque raceOrder : Nat → Nat

end Sys2Proof.Config
end

