-- ==== Sys2Proof/Syntax.lean ====
section
/-!
DEFINITION. The commands the part takes (the rows of spec/opcode_table.json, one constructor each), the names their
operands use, and the small records of five zones and three lines.
-/
namespace Sys2Proof

/-- The heater zones Z1 (door end) to Z5 (far end). -/
inductive Zone where
  | z1 | z2 | z3 | z4 | z5
deriving DecidableEq, Repr

/-- The two thermocouples of a zone (chapter Zone Measurement). -/
inductive ChannelKind where
  | profile | spike
deriving DecidableEq, Repr

/-- The gas lines, in the manual's order. -/
inductive GasLine where
  | purge | carrier | oxidant
deriving DecidableEq, Repr

/-- The two encoder inputs (R86). -/
inductive EncoderLine where
  | a | b
deriving DecidableEq, Repr

/-- What the CFGSRC strap selects (R183). -/
inductive ConfigSource where
  | memory | port
deriving DecidableEq, Repr

/-- One character on LPRX as its bits are sampled: the eight data bits, the parity bit and the stop bit (R169). -/
structure LpChar where
  data : Byte
  parity : Bool
  stop : Bool
deriving DecidableEq, Repr

/-- The result LP notes for one character (R169). -/
inductive LpResult where
  | good (b : Byte)
  | parityError
  | framingError
deriving DecidableEq, Repr

/-- The bits of a byte, least significant first. -/
def bitsLow (b : Byte) : List Bool := [0, 1, 2, 3, 4, 5, 6, 7].map b.getLsbD

/-- The even parity bit: with it the number of 1s is even (R169). -/
def parityBit (b : Byte) : Bool := (bitsLow b).foldl xor false

/-- A stop bit read as 0 is a framing error whatever the parity; otherwise the parity decides (R169). -/
def LpChar.result (c : LpChar) : LpResult :=
  if c.stop then if c.parity = parityBit c.data then .good c.data else .parityError else .framingError

/-- The character that carries a byte: right parity, stop bit 1 (R169). -/
def LpChar.good (b : Byte) : LpChar := ⟨b, parityBit b, true⟩

/-- A character's eleven levels on the line, one a bit time: the start bit 0, the data bits least significant first, the parity
bit, the stop bit (R169). -/
def LpChar.bits (c : LpChar) : List Bool := false :: (bitsLow c.data ++ [c.parity, c.stop])

/-- The number of the sending station less 1, as a bank line header carries it (R131). -/
abbrev StationCode := BitVec 3

/-- The fifteen bytes of an ANNOUNCE body (chapter 12, "Bank line bodies"), field by field. -/
structure AnnounceBody where
  heaterFloor : BitVec 16
  heaterWant : BitVec 16
  heaterHeld : BitVec 16
  purgeFloor : BitVec 16
  purgeWant : BitVec 16
  purgeHeld : BitVec 16
  rank : Byte
  runSummary : Byte
  level : Byte
deriving DecidableEq, Repr

/-- A frame as a receiver of the bank line meets it (R132): its three ways to end. -/
inductive WireFrame where
  /-- A cell fell due without its dominant edge after these bytes. -/
  | earlyEnd (bytes : List Byte)
  /-- The length byte is above 15; nothing more is read. -/
  | badLength (header length : Byte)
  /-- The last check cell was read. -/
  | complete (header length : Byte) (body : List Byte) (check : BitVec 16)
deriving DecidableEq, Repr

/-- The commands: one constructor per row of spec/opcode_table.json, in the table's order. -/
inductive Instr where
  /-- PORn goes low (R182). -/
  | powerOnReset
  /-- RSTn goes low with PORn high (R182). -/
  | warmReset
  /-- The last asserted reset input goes high, with these strap levels (R182). -/
  | resetEnd (cfgsrc : ConfigSource) (addr : BitVec 3)
  /-- The read of the serial memory ends, having yielded these bytes (R183). -/
  | serialMemoryReadEnd (bytes : List Byte)
  /-- A CONFIG-WRITE request frame with this body (R185). -/
  | configWrite (body : List Byte)
  /-- A CONFIG-DONE request frame (R186). -/
  | configDone (body : List Byte)
  /-- A STATUS-READ request frame (R176). -/
  | statusRead (body : List Byte)
  /-- A ZONE-READ request frame (R177). -/
  | zoneRead (body : List Byte)
  /-- A VIEW-READ request frame (R177). -/
  | viewRead (body : List Byte)
  /-- An EVENT-READ request frame (R179). -/
  | eventRead (body : List Byte)
  /-- A FAULT-READ request frame (R167). -/
  | faultRead (body : List Byte)
  /-- A FAULT-CLEAR request frame (R165). -/
  | faultClear (body : List Byte)
  /-- A STEP-APPEND request frame with this step record body (R7, R195). -/
  | stepAppend (body : List Byte)
  /-- A QUEUE-CLEAR request frame (R10). -/
  | queueClear (body : List Byte)
  /-- A RUN-START request frame (R11). -/
  | runStart (body : List Byte)
  /-- A RUN-HOLD request frame (R19). -/
  | runHold (body : List Byte)
  /-- A RUN-RESUME request frame (R21). -/
  | runResume (body : List Byte)
  /-- A RUN-ABORT request frame (R23). -/
  | runAbort (body : List Byte)
  /-- A BOAT-MOVE request frame with target and speed (R102). -/
  | boatMove (body : List Byte)
  /-- Characters on LPRX of which the last ends a frame with a line error (R171). -/
  | lineError (chars : List LpChar)
  /-- Characters on LPRX, then a gap of more than 20 ms (R170). -/
  | lpGapTimeout (chars : List LpChar)
  /-- A complete request frame whose sum fails (R172). -/
  | badCheckFrame (kind : Byte) (body : List Byte) (check : Byte)
  /-- The stop bit of the last byte of the reply in progress (R173). -/
  | replyEnd
  /-- The dwell timer reaches the dwell time (R15). -/
  | dwellExpiry
  /-- The step timeout timer runs out (R22). -/
  | stepTimeoutExpiry
  /-- The abort timer runs out (R24). -/
  | abortTimeout
  /-- One more second has passed outside IDLE (R25). -/
  | runClockTick
  /-- The bytes 0xE5, b1, b2, b3, b4 arrive on the inbound field link (R198, R199). -/
  | sampleRecord (b1 b2 b3 b4 : Byte)
  /-- The good-sample timer of a thermocouple channel runs out (R30). -/
  | channelTimerExpiry (zone : Zone) (kind : ChannelKind)
  /-- The hold timer of a zone runs out (R35). -/
  | holdTimerExpiry (zone : Zone)
  /-- A ZM period (R37). -/
  | zmPeriod
  /-- A ZC period (R50). -/
  | zcPeriod
  /-- The heater window of a zone begins (R64). -/
  | heaterWindowStart (zone : Zone)
  /-- The time since a zone's window started reaches its applied drive (R64). -/
  | heaterOnTimeEnd (zone : Zone)
  /-- A GC period (R77). -/
  | gcPeriod
  /-- The good-sample timer of a readback runs out (R76). -/
  | readbackTimerExpiry (line : GasLine)
  /-- The outbound field link is free and a line is queued (R75). -/
  | setpointRecordSend
  /-- The repeat timer of a line runs out (R75). -/
  | repeatTimerExpiry (line : GasLine)
  /-- SEAL deasserts (R73). -/
  | sealDeassert
  /-- SEAL asserts (R72). -/
  | sealAssert
  /-- A change of level of ENCA or ENCB (R86). -/
  | encoderCount (line : EncoderLine)
  /-- The pulse interval timer reaches the interval in force (R91). -/
  | stepPulse
  /-- LOADCLR asserts (R89). -/
  | loadclrAssert
  /-- LOADCLR deasserts (R89). -/
  | loadclrDeassert
  /-- The re-clear timer runs out (R89). -/
  | reclearTimerExpiry
  /-- An edge of REFM (R100). -/
  | markCapture
  /-- A BD evaluation (R95). -/
  | bdEvaluation
  /-- A valid ANNOUNCE frame (R108). -/
  | announceReceived (station : StationCode) (body : AnnounceBody)
  /-- A valid CURTAIL frame (R149). -/
  | curtailReceived (station : StationCode) (level : Byte)
  /-- A valid CURTAIL-ACK frame (R151). -/
  | curtailAckReceived (station : StationCode) (level origin : Byte)
  /-- A bank frame that is malformed or fails its CRC (R133). -/
  | bankFrameError (frame : WireFrame)
  /-- The age of a station's view entry reaches 3 announce periods (R109). -/
  | entryStale (station : Nat)
  /-- The age of a station's view entry reaches 10 announce periods (R109). -/
  | entryRemoved (station : Nat)
  /-- The bank line has been recessive for 12 bit times (R130). -/
  | lineIdle
  /-- BL may start an attempt (R136). -/
  | attemptStart
  /-- BL reads dominant where it sent a 1 in the header (R136). -/
  | arbitrationLost
  /-- A bit error in the attempt in progress (R137). -/
  | attemptAbandoned
  /-- The last check cell of the attempt is read back as sent (R138). -/
  | transmitCompletion
  /-- The announce timer runs out (R135). -/
  | announceTimerExpiry
  /-- The listen timer runs out (R139). -/
  | listenTimerExpiry
  /-- The silence timer runs out (R140). -/
  | silenceTimerExpiry
  /-- The mute timer runs out (R141). -/
  | muteTimerExpiry
  /-- CL1 and CL0 take these levels (R147). -/
  | curtailInputChange (cl1 cl0 : Bool)
  /-- The debounce timer runs out (R147). -/
  | debounceTimerExpiry
  /-- The ack timer runs out (R152). -/
  | ackTimerExpiry
  /-- A valid bank frame of a kind the part does not use (R133). -/
  | otherKindFrame (code : BitVec 3) (station : StationCode) (body : List Byte)
  /-- A request frame with a good sum and a kind that names no request (R175). -/
  | unknownKindRequest (kind : Byte) (body : List Byte)
  /-- A dominant edge on an idle bank line whose cell reads recessive (R130). -/
  | bankLineGlitch
deriving DecidableEq, Repr

/-- One value for each zone. -/
structure PerZone (α : Type) where
  z1 : α
  z2 : α
  z3 : α
  z4 : α
  z5 : α
deriving DecidableEq, Repr

namespace PerZone
variable {α β : Type}

/-- The value of one zone. -/
def get (p : PerZone α) : Zone → α
  | .z1 => p.z1 | .z2 => p.z2 | .z3 => p.z3 | .z4 => p.z4 | .z5 => p.z5

/-- Replace the value of one zone. -/
def set (p : PerZone α) (z : Zone) (x : α) : PerZone α :=
  match z with
  | .z1 => { p with z1 := x }
  | .z2 => { p with z2 := x }
  | .z3 => { p with z3 := x }
  | .z4 => { p with z4 := x }
  | .z5 => { p with z5 := x }

/-- Build the five values from the zones. -/
def build (f : Zone → α) : PerZone α := ⟨f .z1, f .z2, f .z3, f .z4, f .z5⟩

/-- The five values, Z1 first. -/
def toList (p : PerZone α) : List α := [p.z1, p.z2, p.z3, p.z4, p.z5]

/-- Every zone passes. -/
def all (f : Zone → Bool) : Bool := f .z1 && f .z2 && f .z3 && f .z4 && f .z5

/-- Some zone passes. -/
def any (f : Zone → Bool) : Bool := f .z1 || f .z2 || f .z3 || f .z4 || f .z5

/-- The sum over the zones (Σ of 00_scope.md). -/
def sum (f : Zone → Nat) : Nat := f .z1 + f .z2 + f .z3 + f .z4 + f .z5

end PerZone

/-- The five zones, Z1 first. -/
def Zone.all : List Zone := [.z1, .z2, .z3, .z4, .z5]

/-- The zone number less 1. -/
def Zone.index : Zone → Nat
  | .z1 => 0 | .z2 => 1 | .z3 => 2 | .z4 => 3 | .z5 => 4

/-- One value for each gas line. -/
structure PerLine (α : Type) where
  purge : α
  carrier : α
  oxidant : α
deriving DecidableEq, Repr

namespace PerLine
variable {α : Type}

/-- The value of one line. -/
def get (p : PerLine α) : GasLine → α
  | .purge => p.purge | .carrier => p.carrier | .oxidant => p.oxidant

/-- Replace the value of one line. -/
def set (p : PerLine α) (l : GasLine) (x : α) : PerLine α :=
  match l with
  | .purge => { p with purge := x }
  | .carrier => { p with carrier := x }
  | .oxidant => { p with oxidant := x }

/-- Build the three values from the lines. -/
def build (f : GasLine → α) : PerLine α := ⟨f .purge, f .carrier, f .oxidant⟩

end PerLine

/-- The three lines in the order PURGE, CARRIER, OXIDANT. -/
def GasLine.all : List GasLine := [.purge, .carrier, .oxidant]

end Sys2Proof
end

