-- ==== Sys2Proof/WellFormed.lean ====
section
/-!
DEFINITION. Which commands can reach the part at all: the operands a row of the table can have by the layouts of
chapter 12. A command that is not well-formed is still answered by `exec`; it says nothing the part could meet.
-/
namespace Sys2Proof

/-- The kind bytes that name a request (R194). -/
def requestKinds : List Byte :=
  [0x01, 0x02, 0x03, 0x04, 0x05, 0x10, 0x20, 0x21, 0x22, 0x23, 0x24, 0x25, 0x30, 0x40, 0x41]

/-- A request's length byte is 2 to 46, so its body has 0 to 44 bytes (R170). -/
def bodyFits (body : List Byte) : Bool := decide (body.length ≤ 44)

/-- The good bytes that follow a start byte and do not complete its frame (R170). -/
def unfinished (bytes : List LpChar) : Bool :=
  match bytes with
  | [] => true
  | first :: rest =>
    match first.result with
    | .good len =>
      decide (2 ≤ len.toNat ∧ len.toNat ≤ 46 ∧ rest.length < len.toNat) &&
        rest.all fun c => match c.result with | .good _ => true | _ => false
    | _ => false

/-- Characters of which the last, and no earlier one, ends a frame with a line error (R171). -/
def endsInLineError (chars : List LpChar) : Bool :=
  match chars with
  | start :: rest =>
    decide (start.result = .good 0xA8) &&
      match rest.getLast?.map LpChar.result with
      | some (.good len) => decide (rest.length = 1 ∧ (len.toNat < 2 ∨ 46 < len.toNat))
      | some _ => unfinished rest.dropLast
      | none => false
  | [] => false

/-- No characters, or those of a frame that is not complete (R170). -/
def partialFrame (chars : List LpChar) : Bool :=
  match chars with
  | [] => true
  | start :: rest => decide (start.result = .good 0xA8) && unfinished rest

/-- The operands fit the row. -/
def Instr.wf : Instr → Bool
  | .serialMemoryReadEnd bytes => decide (bytes.length = 64)
  | .configWrite body | .configDone body | .statusRead body | .zoneRead body | .viewRead body
  | .eventRead body | .faultRead body | .faultClear body | .stepAppend body | .queueClear body
  | .runStart body | .runHold body | .runResume body | .runAbort body | .boatMove body => bodyFits body
  | .lineError chars => endsInLineError chars
  | .lpGapTimeout chars => partialFrame chars
  | .badCheckFrame kind body check =>
    bodyFits body && decide (BitVec.ofNat 8 (body.length + 2) + kind + body.foldl (· + ·) 0 + check ≠ 0)
  | .bankFrameError (.earlyEnd bytes) => decide (bytes.length < 19)
  | .bankFrameError (.badLength _ length) => decide (15 < length.toNat)
  | .bankFrameError (.complete _ length body _) => decide (length.toNat ≤ 15 ∧ body.length = length.toNat)
  | .entryStale n | .entryRemoved n => decide (1 ≤ n ∧ n ≤ 8)
  | .otherKindFrame code _ body => decide (code ≠ 1 ∧ code ≠ 2 ∧ code ≠ 4 ∧ body.length ≤ 15)
  | .unknownKindRequest kind body => bodyFits body && decide (kind ∉ requestKinds)
  | .powerOnReset | .warmReset | .resetEnd _ _ | .replyEnd | .dwellExpiry | .stepTimeoutExpiry | .abortTimeout
  | .runClockTick | .sampleRecord _ _ _ _ | .channelTimerExpiry _ _ | .holdTimerExpiry _ | .zmPeriod | .zcPeriod
  | .heaterWindowStart _ | .heaterOnTimeEnd _ | .gcPeriod | .readbackTimerExpiry _ | .setpointRecordSend
  | .repeatTimerExpiry _ | .sealDeassert | .sealAssert | .encoderCount _ | .stepPulse | .loadclrAssert
  | .loadclrDeassert | .reclearTimerExpiry | .markCapture | .bdEvaluation | .announceReceived _ _
  | .curtailReceived _ _ | .curtailAckReceived _ _ _ | .lineIdle | .attemptStart | .arbitrationLost
  | .attemptAbandoned | .transmitCompletion | .announceTimerExpiry | .listenTimerExpiry | .silenceTimerExpiry
  | .muteTimerExpiry | .curtailInputChange _ _ | .debounceTimerExpiry | .ackTimerExpiry | .bankLineGlitch => true

end Sys2Proof
end

