-- ==== Sys2Proof/Decode.lean ====
section
/-!
DEFINITION. The command that a word spells by the bits of spec/opcode_table.json. The table gives no row any bits
(every "fields" is empty and no row has "fixed"): no word spells a command (log 8).
-/
namespace Sys2Proof

/-- No row of the table has bits, so every word is refused. -/
def decodeTableWord (nbits w : Nat) : Option Instr :=
  match nbits, w with
  | _, _ => none

end Sys2Proof
end

