-- ==== Sys2Proof/Machine/State.lean ====
section
/-!
DEFINITION. The state of the part as plain data, block by block (00_scope.md, "Blocks"), its value right after a
power-on reset, and the names of the reasons a step could stop.
-/
namespace Sys2Proof.Machine

/-- A timer with an end: stopped, running with this much time left, or run out and left expired. -/
inductive Timer where
  | stopped
  | running (left : Nat)
  | expired
deriving DecidableEq, Repr

/-! ### The part's straps, fuses and pins -/

/-- The fuse temperature ceiling: 12500 or 13500 (R182). -/
inductive FuseCeiling where
  | low | high
deriving DecidableEq, Repr

/-- The fuse values, fixed at manufacture (R182). -/
structure Fuses where
  ceiling : FuseCeiling
  oxidant : Bool
deriving DecidableEq, Repr

/-- The levels of the input pins that blocks read (00_scope.md, "Signal lines"). -/
structure Pins where
  sealed : Bool
  loadclr : Bool
  encA : Bool
  encB : Bool
  refm : Bool
  cl1 : Bool
  cl0 : Bool
deriving DecidableEq, Repr

/-- The two kinds of reset (R182). -/
inductive ResetKind where
  | powerOn | warm
deriving DecidableEq, Repr

/-! ### Configuration Loader -/

/-- The start-up states (chapter 11). -/
inductive Startup where
  | loading | portWait | notConfigured | joining | ready
deriving DecidableEq, Repr

/-- The configuration image in force: every field after R188 and R189. -/
structure Image where
  station : Nat
  fromStraps : Bool
  bankSize : Nat
  curtailSource : Bool
  oxidantDisabled : Bool
  announcePeriod : Nat
  heaterBudget : Nat
  purgeBudget : Nat
  used : PerZone Bool
  rating : PerZone Nat
  kp : PerZone Nat
  ki : PerZone Nat
  ceiling : Nat
  zoneLimit : Nat
  idleTemperature : Nat
  idleRate : Nat
  settleTime : Nat
  tubeVolume : Nat
  bleedFloor : Nat
  abortPurgeFlow : Nat
  abortPurgeRequirement : Nat
  abortTimeout : Nat
  pIn : Nat
  pMouth : Nat
  pRef : Nat
  stallLimit : Nat
  slipLimit : Nat
  flowTolerance : Nat
deriving DecidableEq, Repr

/-- What CL holds (chapter 11). -/
structure Loader where
  startup : Startup
  staging : List Byte
  image : Option Image
  cfgsrc : ConfigSource
  addr : BitVec 3
  clamped : Bool
deriving DecidableEq, Repr

/-! ### Run Sequencer -/

/-- The stored form of a thermal part (R2). -/
structure ThermalPart where
  targets : PerZone Nat
  rate : Nat
  band : Nat
deriving DecidableEq, Repr

/-- A gas part (R3). -/
structure GasPart where
  flows : PerLine Nat
  requirement : Nat
deriving DecidableEq, Repr

/-- A boat part, which is also the target record BD takes (R4, R87). -/
structure BoatPart where
  target : Nat
  speed : Nat
  droop : Nat
deriving DecidableEq, Repr

/-- The condition set of a completion part (R5). -/
structure Conditions where
  thermalSettled : Bool
  boatArrived : Bool
  purgeDone : Bool
  dwell : Bool
deriving DecidableEq, Repr

/-- A step record as RS keeps it (R1). -/
structure StepRecord where
  label : Nat
  thermal : Option ThermalPart
  gas : Option GasPart
  boat : Option BoatPart
  conditions : Conditions
  dwell : Nat
  timeout : Nat
  last : Bool
deriving DecidableEq, Repr

/-- The run states (chapter 1). -/
inductive RunState where
  | idle | running | starved | held | aborting
deriving DecidableEq, Repr

/-- The prior state kept in HELD (R19). -/
inductive PriorState where
  | running | starved
deriving DecidableEq, Repr

/-- The three states of the dwell timer (R15). -/
inductive DwellPhase where
  | stopped | armed | counting
deriving DecidableEq, Repr

/-- The dwell timer, and whether the DWELL condition holds (R15). -/
structure Dwell where
  phase : DwellPhase
  elapsed : Nat
  holds : Bool
deriving DecidableEq, Repr

/-- What RS holds (chapter 1); `abortOrdered`, the model's own, is an abort order that RS has not yet taken (log 35). -/
structure Sequencer where
  run : RunState
  prior : Option PriorState
  queue : List StepRecord
  current : Option StepRecord
  thermal : Option ThermalPart
  gas : Option GasPart
  dwell : Dwell
  stepTimer : Timer
  abortTimer : Timer
  clock : Nat
  clockPhase : Timer
  labelInForce : Option Nat
  lastLabel : Option Nat
  done : Nat
  discarded : Nat
  abortOrdered : Bool
deriving DecidableEq, Repr

/-! ### Zone Measurement -/

/-- The statuses of a sample (R28). -/
inductive SampleStatus where
  | ok | opened | range
deriving DecidableEq, Repr

/-- A thermocouple channel (R29, R30); its age is absent while infinite. -/
structure Channel where
  status : SampleStatus
  lastGood : Option Int
  age : Option Nat
  timer : Timer
deriving DecidableEq, Repr

/-- The zone states (chapter 2). -/
inductive ZoneState where
  | normal | degraded | lostHold | lost | overtemp | unused
deriving DecidableEq, Repr

/-- What ZM holds of one zone. -/
structure ZoneMeasurement where
  state : ZoneState
  profile : Channel
  spike : Channel
  offset : Int
  lastMeasured : Option Int
  holdTimer : Timer
deriving DecidableEq, Repr

/-- What ZM holds (chapter 2), with the field link receiver (R199): `rx` is absent while it hunts, and holds the bytes
taken since the 0xE5 otherwise. -/
structure Measurement where
  zones : PerZone ZoneMeasurement
  checkErrors : Nat
  ignored : Nat
  rx : Option (List Byte)
  phase : Timer
deriving DecidableEq, Repr

/-! ### Zone Control -/

/-- A heater output window (R64): not begun, first start this many ms away, or this many ms since its start. -/
inductive Window where
  | off
  | waiting (left : Nat)
  | running (t : Nat)
deriving DecidableEq, Repr

/-- What ZC holds of one zone; `spi` is absent while unseeded. -/
structure ZoneControl where
  target : Option Nat
  spi : Option Nat
  ia : Nat
  draw : Nat
  window : Window
deriving DecidableEq, Repr

/-- What ZC holds (chapter 3). -/
structure Heat where
  zones : PerZone ZoneControl
  rate : Option Nat
  band : Option Nat
  settle : Option Nat
  rampWait : Bool
  capSeen : Bool
  frozen : Bool
  demand : Nat
  want : Nat
  floor : Nat
  phase : Timer
deriving DecidableEq, Repr

/-! ### Gas Control -/

/-- What GC holds of one line (chapter 4). -/
structure LineControl where
  commanded : Nat
  status : SampleStatus
  lastGood : Option Nat
  age : Option Nat
  timer : Timer
  devTimer : Option Nat
  deviates : Bool
  latch : Bool
  repeatTimer : Timer
deriving DecidableEq, Repr

/-- A setpoint record (R75, R198). -/
structure SetpointRecord where
  line : GasLine
  flow : Nat
deriving DecidableEq, Repr

/-- What GC holds (chapter 4); `sent` is the model's own: the setpoint record whose sending began last (log 22). -/
structure Gas where
  lines : PerLine LineControl
  acc : Nat
  requirement : Option Nat
  abortPurge : Bool
  queue : List GasLine
  sent : Option SetpointRecord
  phase : Timer
deriving DecidableEq, Repr

/-! ### Boat Drive -/

/-- The direction of an encoder count (R86). -/
inductive Direction where
  | inward | outward
deriving DecidableEq, Repr

/-- The speed factor in quarters: 4, 2 or 1 (R92). -/
inductive SpeedFactor where
  | full | half | quarter
deriving DecidableEq, Repr

/-- The load-area gate (R89). -/
inductive Gate where
  | closed | reclearing | opened
deriving DecidableEq, Repr

/-- A mark record (R100). -/
structure Mark where
  position : Nat
  direction : Direction
deriving DecidableEq, Repr

/-- What was done with a mark that was taken (R101). -/
inductive MarkAction where
  | rebase | slip
deriving DecidableEq, Repr

/-- The last-mark record (R101). -/
structure LastMark where
  position : Nat
  direction : Direction
  diff : Int
  action : MarkAction
deriving DecidableEq, Repr

/-- What BD holds (chapter 5); `pulse` is the pulse interval timer in µs; `pulses` counts the pulses driven on BSTEP and
is the model's own (log 21). -/
structure Boat where
  e : Nat
  c : Nat
  dir : Direction
  move : Option BoatPart
  factor : SpeedFactor
  droopWait : Bool
  bdir : Bool
  gate : Gate
  reclear : Timer
  pulse : Option Nat
  pulses : Nat
  marks : List Mark
  lastMark : Option LastMark
  referenced : Bool
  droop : Option Int
  phase : Timer
deriving DecidableEq, Repr

/-! ### Budget Unit and curtailment -/

/-- The curtail levels (R146). -/
inductive Level where
  | l100 | l75 | l50 | l25
deriving DecidableEq, Repr

/-- A floor and the want it goes with (00_scope.md, "Terms"). -/
structure Demand where
  floor : Nat
  want : Nat
deriving DecidableEq, Repr

/-- A supply as an entry of the peer view holds it (R106). -/
structure PeerSupply where
  floor : Nat
  want : Nat
  held : Nat
deriving DecidableEq, Repr

/-- An entry of the peer view (R106). -/
structure ViewEntry where
  station : Nat
  heater : PeerSupply
  purge : PeerSupply
  rank : Nat
  summary : RunState
  level : Level
  age : Nat
  stale : Bool
deriving DecidableEq, Repr

/-- A curtail ack collection in progress (R150). -/
structure Collection where
  level : Level
  expected : List Nat
  timer : Timer
deriving DecidableEq, Repr

/-- What BU holds (chapters 6 and 8). -/
structure Budget where
  view : List ViewEntry
  heater : Demand
  purge : Demand
  heldHeater : Nat
  heldPurge : Nat
  level : Level
  contentErrors : Nat
  collection : Option Collection
  debounced : Level
  debounce : Timer
  frameHeard : Bool
deriving DecidableEq, Repr

/-! ### Bank Line interface -/

/-- The phases of the link state (chapter 7, "Link states"). -/
inductive LinkPhase where
  | inactive | joining | on
deriving DecidableEq, Repr

/-- The idle count of R130 at the grain of whole commands (log 10). -/
inductive Line where
  | stopped
  | recessive (us : Nat)
  | idle
  | busy
deriving DecidableEq, Repr

/-- The contents of a frame the part sends (R131). -/
inductive OwnFrame where
  | curtail (level : Level)
  | ack (level : Level) (origin : Nat)
  | announce (body : AnnounceBody)
deriving DecidableEq, Repr

/-- The attempt in progress: its frame in flight, and whether its slot's contents were replaced since it began (R134). -/
structure Attempt where
  frame : OwnFrame
  replaced : Bool
deriving DecidableEq, Repr

/-- The contents of a pending CURTAIL-ACK slot (R134). -/
structure AckContents where
  level : Level
  origin : Nat
deriving DecidableEq, Repr

/-- What BL holds (chapter 7). -/
structure Bank where
  phase : LinkPhase
  isolated : Bool
  mute : Bool
  curtailSlot : Option Level
  ackSlot : Option AckContents
  announceSlot : Bool
  attempt : Option Attempt
  abandons : Nat
  rxErrors : Nat
  listen : Timer
  silence : Timer
  muteTimer : Timer
  announce : Timer
  line : Line
deriving DecidableEq, Repr

/-! ### Fault Log -/

/-- The fault kinds, in the order of R157's table. -/
inductive FaultKind where
  | overtemp | zoneLost | channelFailed | stepTimeout | flowDeviation | sealLost | boatStall | boatSlip
  | markOverflow | addressClash | linkMute | curtailUnconfirmed | abortIncomplete | configDefault
deriving DecidableEq, Repr

/-- The fault classes (R157). -/
inductive FaultClass where
  | note | hold | abort
deriving DecidableEq, Repr

/-- The subject of a fault (R157). -/
inductive FaultSubject where
  | none
  | zone (z : Zone)
  | channel (z : Zone) (k : ChannelKind)
  | line (l : GasLine)
  | station (n : Nat)
  | stations (ns : List Nat)
deriving DecidableEq, Repr

/-- The checks of a configuration image (R184). -/
inductive ImageCheck where
  | signature | sum
deriving DecidableEq, Repr

/-- The value of a fault (R157). -/
inductive FaultValue where
  | absent
  | number (v : Int)
  | stations (ns : List Nat)
  | check (c : ImageCheck)
deriving DecidableEq, Repr

/-- A fault record (R158). -/
structure FaultRecord where
  kind : FaultKind
  cls : FaultClass
  subject : FaultSubject
  label : Option Nat
  runTime : Option Nat
  value : FaultValue
deriving DecidableEq, Repr

/-- What FL holds (chapter 9). -/
structure FaultLog where
  first : Option FaultRecord
  next : Option FaultRecord
  summary : List FaultKind
  count : Nat
deriving DecidableEq, Repr

/-! ### Local Port -/

/-- The events, in the order of R178's table. -/
inductive EventKind where
  | stepStarted | stepDone | runEnded | held | starved | fault | boatArrived | boatGated | curtail | link | ready
deriving DecidableEq, Repr

/-- LP's receiver with the frame being assembled: the bytes after the start byte (R170). -/
inductive LpReceiver where
  | hunting
  | inFrame (bytes : List Byte)
  | skipping
deriving DecidableEq, Repr

/-- An entry of the input slot (R173). -/
inductive LpEntry where
  | request (kind : Byte) (body : List Byte)
  | reject
  | badCheck (kind : Byte)
deriving DecidableEq, Repr

/-- The reply codes (R174). -/
inductive ReplyCode where
  | ok | okClamped | state | queueFull | empty | faultPending | notConfigured | badFormat | badCheck | reject
deriving DecidableEq, Repr

/-- A reply: kind byte, code and body (R194). -/
structure Reply where
  kind : Byte
  code : ReplyCode
  body : List Byte
deriving DecidableEq, Repr

/-- What LP holds (chapter 10); `gap` stops counting one ms past the gap. -/
structure Port where
  rx : LpReceiver
  gap : Nat
  slot : Option LpEntry
  reply : Option Reply
  replyTimer : Timer
  events : List EventKind
  lineErrors : Nat
  overruns : Nat
deriving DecidableEq, Repr

/-! ### The whole part -/

/-- The state of the part. `pending` is the queue of commands that wait, and `free` the counter that the free choices are
drawn with (logs 3, 13, 16 and 35); both are the model's own. -/
structure State where
  cl : Loader
  rs : Sequencer
  zm : Measurement
  zc : Heat
  gc : Gas
  bd : Boat
  bu : Budget
  bl : Bank
  fl : FaultLog
  lp : Port
  pins : Pins
  fuses : Fuses
  resetHeld : Option ResetKind
  pending : List Instr
  free : Nat
deriving DecidableEq, Repr

/-- No command stops the machine with a fault: the manual's faults are effects on the state (chapter 9). Nobody raises one,
so there is no constructor (safe). -/
inductive Fault where
deriving DecidableEq, Repr

/-- The refusals. -/
inductive Refusal where
  /-- Raised by `exec` alone, for a command that has no meaning yet (safe: nothing can be proved of a next state). -/
  | notModelled (mnemonic : String)
deriving DecidableEq, Repr

/-! ### Reset values -/

/-- CL at the end of a power-on reset that left LOADING (R182); the strap levels sampled are a DESIGN CHOICE (log 4). -/
def Loader.reset : Loader where
  startup := .loading
  staging := List.replicate 64 0
  image := none
  cfgsrc := .memory
  addr := 0
  clamped := false

/-- RS after either reset (R27); the elapsed time of the stopped dwell timer is a DESIGN CHOICE (log 36). -/
def Sequencer.reset : Sequencer where
  run := .idle
  prior := none
  queue := []
  current := none
  thermal := none
  gas := none
  dwell := ⟨.stopped, 0, false⟩
  stepTimer := .stopped
  abortTimer := .stopped
  clock := 0
  clockPhase := .stopped
  labelInForce := none
  lastLabel := none
  done := 0
  discarded := 0
  abortOrdered := false

/-- A channel after either reset (R44); its last status reads OK (R43). -/
def Channel.reset : Channel := ⟨.ok, none, none, .stopped⟩

/-- A zone of ZM after either reset (R44). -/
def ZoneMeasurement.reset : ZoneMeasurement := ⟨.lostHold, Channel.reset, Channel.reset, 0, none, .stopped⟩

/-- ZM after either reset (R44). -/
def Measurement.reset : Measurement where
  zones := PerZone.build fun _ => ZoneMeasurement.reset
  checkErrors := 0
  ignored := 0
  rx := none
  phase := .stopped

/-- ZC after either reset (R68). -/
def Heat.reset : Heat where
  zones := PerZone.build fun _ => ⟨none, none, 0, 0, .off⟩
  rate := none
  band := none
  settle := none
  rampWait := false
  capSeen := false
  frozen := false
  demand := 0
  want := 0
  floor := 0
  phase := .stopped

/-- GC after either reset (R85). -/
def Gas.reset : Gas where
  lines := PerLine.build fun _ => ⟨0, .ok, none, none, .stopped, none, false, false, .stopped⟩
  acc := 0
  requirement := none
  abortPurge := false
  queue := []
  sent := none
  phase := .stopped

/-- BD after either reset (R105). -/
def Boat.reset : Boat where
  e := 0
  c := 0
  dir := .inward
  move := none
  factor := .full
  droopWait := false
  bdir := false
  gate := .closed
  reclear := .stopped
  pulse := none
  pulses := 0
  marks := []
  lastMark := none
  referenced := false
  droop := none
  phase := .stopped

/-- BU and the curtailment mechanism after either reset (R128, R156). -/
def Budget.reset : Budget where
  view := []
  heater := ⟨0, 0⟩
  purge := ⟨0, 0⟩
  heldHeater := 0
  heldPurge := 0
  level := .l100
  contentErrors := 0
  collection := none
  debounced := .l100
  debounce := .stopped
  frameHeard := false

/-- BL after either reset (R145). -/
def Bank.reset : Bank where
  phase := .inactive
  isolated := false
  mute := false
  curtailSlot := none
  ackSlot := none
  announceSlot := false
  attempt := none
  abandons := 0
  rxErrors := 0
  listen := .stopped
  silence := .stopped
  muteTimer := .stopped
  announce := .stopped
  line := .stopped

/-- FL after a power-on reset (R168). -/
def FaultLog.reset : FaultLog := ⟨none, none, [], 0⟩

/-- LP after either reset (R181). -/
def Port.reset : Port where
  rx := .skipping
  gap := 0
  slot := none
  reply := none
  replyTimer := .stopped
  events := []
  lineErrors := 0
  overruns := 0

/-- The part right after a power-on reset has ended, in LOADING (R182). The pin levels, the strap levels sampled and the
fuses are not the part's to set: DESIGN CHOICE (logs 4, 5, 6). -/
def State.reset : State where
  cl := Loader.reset
  rs := Sequencer.reset
  zm := Measurement.reset
  zc := Heat.reset
  gc := Gas.reset
  bd := Boat.reset
  bu := Budget.reset
  bl := Bank.reset
  fl := FaultLog.reset
  lp := Port.reset
  pins := ⟨false, false, false, false, false, false, false⟩
  fuses := ⟨.low, false⟩
  resetHeld := none
  pending := []
  free := 0

end Sys2Proof.Machine
end

