-- ==== Sys2Proof/Machine/Operands.lean ====
section
/-!
DEFINITION. Byte order, checks and layouts of everything seen outside the part (chapter 12), and the two receivers that
turn bytes into entries and records (R170 to R172, R199).
-/
namespace Sys2Proof.Machine

/-! ### Fields and byte order (R192) -/

/-- The byte at an index, 0 past the end. -/
def byteAt (bs : List Byte) (i : Nat) : Byte := bs.getD i 0

/-- A one-byte unsigned field. -/
def at1 (bs : List Byte) (i : Nat) : Nat := (byteAt bs i).toNat

/-- A two-byte unsigned field, most significant byte first. -/
def at2 (bs : List Byte) (i : Nat) : Nat := at1 bs i * 256 + at1 bs (i + 1)

/-- A two-byte signed field, two's complement. -/
def at2s (bs : List Byte) (i : Nat) : Int := (BitVec.ofNat 16 (at2 bs i)).toInt

/-- The bytes of a number in `n` bytes, most significant first. -/
def bytesOf : Nat → Nat → List Byte
  | 0, _ => []
  | n + 1, v => BitVec.ofNat 8 (v >>> (8 * n)) :: bytesOf n v

/-- The bytes of a signed number in two's complement. -/
def bytesOfInt (n : Nat) (v : Int) : List Byte := bytesOf n (BitVec.ofInt (8 * n) v).toNat

/-- The bits of a byte, most significant first. -/
def bitsHigh (b : Byte) : List Bool := (bitsLow b).reverse

/-- The bytes that bits spell, eight to a byte, most significant bit first; what is left of a byte spells none. -/
def bytesHigh : List Bool → List Byte
  | b7 :: b6 :: b5 :: b4 :: b3 :: b2 :: b1 :: b0 :: rest =>
    BitVec.ofBoolListBE [b7, b6, b5, b4, b3, b2, b1, b0] :: bytesHigh rest
  | _ => []

/-- The sum of bytes modulo 256, as the sum checks take it (R193). -/
def byteSum (bs : List Byte) : Byte := bs.foldl (· + ·) 0

/-! ### Local port: the receiver (R170 to R172) -/

/-- A complete frame after its length byte, checked by its sum (R172). -/
def checkRequest (len : Byte) (bytes : List Byte) : LpEntry :=
  if byteSum (len :: bytes) = 0 then .request (byteAt bytes 0) (bytes.tail.dropLast)
  else .badCheck (byteAt bytes 0)

/-- A good byte in IN-FRAME: the length byte, then that many bytes (R170, R171). -/
def lpFrameByte (bytes : List Byte) (b : Byte) : LpReceiver × Option LpEntry :=
  match bytes with
  | [] => if 2 ≤ b.toNat ∧ b.toNat ≤ 46 then (.inFrame [b], none) else (.skipping, some .reject)
  | len :: rest =>
    if rest.length + 1 = len.toNat then (.hunting, some (checkRequest len (rest ++ [b])))
    else (.inFrame (len :: rest ++ [b]), none)

/-- One character at the receiver: its new state and the entry it forms, if any (table of R170). -/
def lpTake (rx : LpReceiver) (c : LpChar) : LpReceiver × Option LpEntry :=
  match rx, c.result with
  | .hunting, .good b => (if b = 0xA8 then .inFrame [] else .hunting, none)
  | .hunting, _ => (.hunting, none)
  | .skipping, _ => (.skipping, none)
  | .inFrame bytes, .good b => lpFrameByte bytes b
  | .inFrame _, _ => (.skipping, some .reject)

/-- Characters one after the other: the state they leave and the entries they form, in order. -/
def lpFeed (rx : LpReceiver) : List LpChar → LpReceiver × List LpEntry
  | [] => (rx, [])
  | c :: cs =>
    let (rx1, e) := lpTake rx c
    let (rx2, es) := lpFeed rx1 cs
    (rx2, e.toList ++ es)

/-- The characters of a request frame with the given check byte (R194). -/
def frameChars (kind : Byte) (body : List Byte) (check : Byte) : List LpChar :=
  ([0xA8, BitVec.ofNat 8 (body.length + 2), kind] ++ body ++ [check]).map LpChar.good

/-- The check byte that makes a request's sum come out 0 (R193). -/
def requestCheck (kind : Byte) (body : List Byte) : Byte :=
  0 - byteSum (BitVec.ofNat 8 (body.length + 2) :: kind :: body)

/-- The characters of a request frame with a good sum. -/
def requestChars (kind : Byte) (body : List Byte) : List LpChar := frameChars kind body (requestCheck kind body)

/-! ### Local port: the step record body (R195, R196) -/

/-- A thermal part as read from a body, before the clamps of R2. -/
structure RawThermal where
  centre : Int
  offsets : PerZone Int
  rate : Nat
  band : Nat
deriving DecidableEq, Repr

/-- A step record as read from a body, before the clamps of R2 to R4. -/
structure RawStep where
  label : Nat
  thermal : Option RawThermal
  gas : Option GasPart
  boat : Option BoatPart
  conditions : Conditions
  dwell : Nat
  timeout : Nat
  last : Bool
deriving DecidableEq, Repr

/-- Where the gas part begins, by the presence flags. -/
def gasOffset (flags : Byte) : Nat := 3 + if flags.getLsbD 0 then 15 else 0

/-- Where the boat part begins. -/
def boatOffset (flags : Byte) : Nat := gasOffset flags + if flags.getLsbD 1 then 7 else 0

/-- Where the completion part begins; five bytes more are the expected length (R196). -/
def completionOffset (flags : Byte) : Nat := boatOffset flags + if flags.getLsbD 2 then 6 else 0

/-- Read a step record body; none where the presence flags do not agree with its length (R7, R196). -/
def readStep (b : List Byte) : Option RawStep :=
  let flags := byteAt b 2
  let g := gasOffset flags
  let m := boatOffset flags
  let k := completionOffset flags
  let cond := byteAt b k
  if b.length ≠ k + 5 then none
  else some {
    label := at2 b 0
    thermal := if flags.getLsbD 0 then
        some ⟨at2s b 3, ⟨at2s b 5, at2s b 7, at2s b 9, at2s b 11, at2s b 13⟩, at1 b 15, at2 b 16⟩ else none
    gas := if flags.getLsbD 1 then
        some ⟨⟨at2 b g, at2 b (g + 2), at2 b (g + 4)⟩, at1 b (g + 6)⟩ else none
    boat := if flags.getLsbD 2 then some ⟨at2 b m, at2 b (m + 2), at2 b (m + 4)⟩ else none
    conditions := ⟨cond.getLsbD 0, cond.getLsbD 1, cond.getLsbD 2, cond.getLsbD 3⟩
    dwell := at2 b (k + 1)
    timeout := at2 b (k + 3)
    last := cond.getLsbD 7 }

/-! ### Field link (R198, R199) -/

/-- What the field link receiver makes of a record: a failed sum, or the three bytes of a good record. -/
inductive FieldOutput where
  | bad
  | record (chanStatus hi lo : Byte)
deriving DecidableEq, Repr

/-- Hunting resumed at the first of the four bytes of a failing record (R199). -/
def rehunt (bytes : List Byte) : Option (List Byte) :=
  match bytes.dropWhile (· ≠ 0xE5) with
  | [] => none
  | _ :: rest => some rest

/-- One byte at the field link receiver (R199). -/
def fieldTake (rx : Option (List Byte)) (b : Byte) : Option (List Byte) × Option FieldOutput :=
  match rx with
  | none => (if b = 0xE5 then some [] else none, none)
  | some [b1, b2, b3] =>
    if byteSum [b1, b2, b3, b] = 0 then (none, some (.record b1 b2 b3)) else (rehunt [b1, b2, b3, b], some .bad)
  | some bytes => (some (bytes ++ [b]), none)

/-- Bytes one after the other at the field link receiver. -/
def fieldFeed (rx : Option (List Byte)) : List Byte → Option (List Byte) × List FieldOutput
  | [] => (rx, [])
  | b :: bs =>
    let (rx1, o) := fieldTake rx b
    let (rx2, os) := fieldFeed rx1 bs
    (rx2, o.toList ++ os)

/-- A character of the field link, ten levels, one a bit time at 460,800 bit/s: start bit, data bits, stop bit (R198). That the start
bit is 0, the stop bit 1 and the least significant data bit first is PRESUMED as R169 has it on the local port (log 41). -/
def fieldChar (b : Byte) : List Bool := false :: (bitsLow b ++ [true])

/-- The bytes that characters on the field link carry, ten levels a character without gaps (R198). -/
def fieldBytes : List Bool → List Byte
  | false :: b0 :: b1 :: b2 :: b3 :: b4 :: b5 :: b6 :: b7 :: true :: rest =>
    BitVec.ofBoolListLE [b0, b1, b2, b3, b4, b5, b6, b7] :: fieldBytes rest
  | _ => []

/-- The channel of a sample record (R198). -/
def sampleChannel (chanStatus : Byte) : Nat := chanStatus.toNat / 16

/-- The status of a sample record; none for an unknown code (R198). -/
def sampleStatus (chanStatus : Byte) : Option SampleStatus :=
  match chanStatus.toNat % 16 with
  | 0 => some .ok
  | 1 => some .opened
  | 2 => some .range
  | _ => none

/-- The value of a sample record, signed (R198). -/
def sampleValue (hi lo : Byte) : Int := at2s [hi, lo] 0

/-- The channel number of a line's records (R198). -/
def lineChannel : GasLine → Nat
  | .purge => 10 | .carrier => 11 | .oxidant => 12

/-- The five bytes of a setpoint record (R198, R193). -/
def setpointBytes (r : SetpointRecord) : List Byte :=
  let three := BitVec.ofNat 8 (lineChannel r.line * 16) :: bytesOf 2 r.flow
  0xE5 :: (three ++ [0 - byteSum three])

/-- The levels of a setpoint record on FLTX, one a bit time: its five bytes one after the other without gaps (R198, R199). -/
def SetpointRecord.fltx (r : SetpointRecord) : List Bool := (setpointBytes r).flatMap fieldChar

/-! ### Bank line: cells (R129, R130) -/

/-- What a sending station puts into one cell of the bank line: the start of frame, or a bit. -/
inductive Cell where
  | sof
  | bit (b : Bool)
deriving DecidableEq, Repr

/-- For how many µs from its start a sender drives a cell of 8 µs dominant: a 1 for 2, a 0 for 6, the SOF for all 8 (R129, R130). -/
def Cell.dominantUs : Cell → Nat
  | .sof => 8
  | .bit true => 2
  | .bit false => 6

/-- A sender drives the line dominant this many µs into its cell; in the rest of the cell it has released it (R129). -/
def Cell.drivesAt (c : Cell) (us : Nat) : Bool := decide (us < c.dominantUs)

/-- The line is dominant this many µs into a cell: dominant overrides recessive, and a station with no cell to send drives nothing
(R129). -/
def lineDominant (stations : List (Option Cell)) (us : Nat) : Bool :=
  stations.any fun c => c.any (·.drivesAt us)

/-- The bit that every station reads in a cell, 4 µs into it: 0 where the line is dominant, 1 where it is recessive (R129). -/
def lineRead (stations : List (Option Cell)) : Bool := !lineDominant stations Config.sampleUs

/-- The bit that a sender reads back where no other station drives. -/
def Cell.asSent (c : Cell) : Bool := lineRead [some c]

/-! ### Bank line: frames (R131, R193) -/

/-- One bit into the CRC register (R193). -/
def crcBit (reg : BitVec 16) (bit : Bool) : BitVec 16 :=
  if reg.getLsbD 15 ≠ bit then (reg <<< 1) ^^^ 0x1021#16 else reg <<< 1

/-- One byte into the CRC register, most significant bit first. -/
def crcByte (reg : BitVec 16) (b : Byte) : BitVec 16 :=
  [7, 6, 5, 4, 3, 2, 1, 0].foldl (fun r i => crcBit r (b.getLsbD i)) reg

/-- The CRC-16 of the bank line over header, length and body. -/
def crc16 (bs : List Byte) : BitVec 16 := bs.foldl crcByte 0xFFFF#16

/-- The header byte: kind code, station number less 1, and 11 (R131). -/
def headerByte (code : BitVec 3) (station : StationCode) : Byte := code ++ station ++ 3#2

/-- The station number a header's code stands for (R131). -/
def stationNumber (code : StationCode) : Nat := code.toNat + 1

/-- The header's code of a station number. -/
def stationCode (n : Nat) : StationCode := BitVec.ofNat 3 (n - 1)

/-- The two bytes of a 16-bit field. -/
def bytes16 (w : BitVec 16) : List Byte := [w.extractLsb' 8 8, w.extractLsb' 0 8]

/-- The fifteen bytes of an ANNOUNCE body (chapter 12). -/
def announceBytes (b : AnnounceBody) : List Byte :=
  bytes16 b.heaterFloor ++ bytes16 b.heaterWant ++ bytes16 b.heaterHeld ++
  bytes16 b.purgeFloor ++ bytes16 b.purgeWant ++ bytes16 b.purgeHeld ++ [b.rank, b.runSummary, b.level]

/-- A curtail level as a byte holds it (R192). -/
def Level.percent : Level → Nat
  | .l100 => 100 | .l75 => 75 | .l50 => 50 | .l25 => 25

/-- The level a byte names, if it names one (R107, R149, R151). -/
def readLevel (b : Byte) : Option Level :=
  match b.toNat with
  | 100 => some .l100
  | 75 => some .l75
  | 50 => some .l50
  | 25 => some .l25
  | _ => none

/-- The kind code of a frame the part sends (R131). -/
def OwnFrame.code : OwnFrame → BitVec 3
  | .curtail _ => 1 | .ack _ _ => 2 | .announce _ => 4

/-- The body of a frame the part sends (chapter 12). -/
def OwnFrame.body : OwnFrame → List Byte
  | .curtail level => [BitVec.ofNat 8 level.percent]
  | .ack level origin => [BitVec.ofNat 8 level.percent, BitVec.ofNat 8 origin]
  | .announce b => announceBytes b

/-- The bytes of a frame the part sends, check included (R131, R193). -/
def OwnFrame.bytes (station : Nat) (f : OwnFrame) : List Byte :=
  let checked := headerByte f.code (stationCode station) :: BitVec.ofNat 8 f.body.length :: f.body
  checked ++ bytes16 (crc16 checked)

/-- The cells of a frame the part sends: the SOF, then the bits of its bytes, most significant first (R131). -/
def OwnFrame.cells (station : Nat) (f : OwnFrame) : List Cell :=
  .sof :: ((f.bytes station).flatMap bitsHigh).map .bit

/-- The frame a receiver assembles from the bits it has read in the cells after the SOF, up to the last check cell, or as many as
were opened by a dominant edge (R132). -/
def readFrame (bits : List Bool) : WireFrame :=
  match bytesHigh bits with
  | header :: length :: rest =>
    if 15 < length.toNat then .badLength header length
    else
      match rest.drop length.toNat with
      | hi :: lo :: _ => .complete header length (rest.take length.toNat) (hi ++ lo)
      | _ => .earlyEnd (header :: length :: rest)
  | bytes => .earlyEnd bytes

/-- How a sender's cells end by the bits read back, one a cell, from cell number `i` of the frame on: at the first cell that
differs, arbitration is lost where it is a header cell (1 to 8) in which the sender sent a 1, and every other difference is a bit
error, which abandons the attempt; with every cell read back as sent the attempt completes. While cells are to come there is none
(R129, R136 to R138). -/
def cellsEnd : Nat → List Cell → List Bool → Option Instr
  | _, [], _ => some .transmitCompletion
  | _, _ :: _, [] => none
  | i, c :: cells, bit :: bits =>
    if bit = c.asSent then cellsEnd (i + 1) cells bits
    else if 1 ≤ i ∧ i ≤ 8 ∧ c = .bit true then some .arbitrationLost
    else some .attemptAbandoned

/-- The body length a kind must have: the three kinds the part uses, none for any other (R131). -/
def kindLength (code : BitVec 3) : Option Nat :=
  match code.toNat with
  | 1 => some 1
  | 2 => some 2
  | 4 => some 15
  | _ => none

/-- A received frame is malformed (checks 1 to 3 of R133). -/
def frameMalformed : WireFrame → Bool
  | .earlyEnd _ => true
  | .badLength _ _ => true
  | .complete header length _ _ =>
    decide (15 < length.toNat) || decide (header.extractLsb' 0 2 ≠ 3#2) ||
      match kindLength (header.extractLsb' 5 3) with
      | some n => decide (length.toNat ≠ n)
      | none => false

/-- A received frame's check does not agree with the CRC-16 over it (check 4 of R133). -/
def frameCrcFails : WireFrame → Bool
  | .complete header length body check => decide (crc16 (header :: length :: body) ≠ check)
  | _ => false

/-- A received frame that is discarded and counted (R133). -/
def frameDiscarded (f : WireFrame) : Bool := frameMalformed f || frameCrcFails f

/-! ### Codes of enumerated values (R192, R194) -/

/-- The code of a run state. -/
def RunState.code : RunState → Nat
  | .idle => 0 | .running => 1 | .starved => 2 | .held => 3 | .aborting => 4

/-- The run state a byte names, if it names one (R107). -/
def readRunState (b : Byte) : Option RunState :=
  match b.toNat with
  | 0 => some .idle
  | 1 => some .running
  | 2 => some .starved
  | 3 => some .held
  | 4 => some .aborting
  | _ => none

/-- The value byte of a reply code (R194). -/
def ReplyCode.byte : ReplyCode → Byte
  | .ok => 0x00 | .okClamped => 0x01 | .state => 0x10 | .queueFull => 0x11 | .empty => 0x12
  | .faultPending => 0x13 | .notConfigured => 0x14 | .badFormat => 0x20 | .badCheck => 0x21 | .reject => 0x22

/-- The bytes of a reply frame on LPTX (R194, R193). -/
def Reply.bytes (r : Reply) : List Byte :=
  let summed := bytesOf 2 (r.body.length + 3) ++ [r.kind, r.code.byte] ++ r.body
  0xA9 :: (summed ++ [0 - byteSum summed])

/-- The levels of a reply on LPTX, one a bit time: its bytes one after the other without gaps (R169). -/
def Reply.lptx (r : Reply) : List Bool := r.bytes.flatMap fun b => (LpChar.good b).bits

/-! ### The configuration image (R184, R188, R189, R200) -/

/-- The first check of R184 that the staging image fails. -/
def imageFault (b : List Byte) : Option ImageCheck :=
  if byteAt b 0 ≠ 0xC3 then some .signature
  else if byteSum b ≠ 0 then some .sum
  else none

/-- The announce period field in force, in 10 ms units (R188). -/
def periodField (v : Nat) : Nat := if v = 0 then 100 else clampNat 25 200 v

/-- The fuse ceiling as a temperature (R182). -/
def FuseCeiling.limit : FuseCeiling → Nat
  | .low => 12500 | .high => 13500

/-- Five consecutive one-byte fields, Z1 first. -/
def zoneBytes (b : List Byte) (i : Nat) : PerZone Nat :=
  ⟨at1 b i, at1 b (i + 1), at1 b (i + 2), at1 b (i + 3), at1 b (i + 4)⟩

/-- The image in force that a valid staging image gives (R188, R189). -/
def applyImage (b : List Byte) (addr : BitVec 3) (fuses : Fuses) : Image :=
  let flags := byteAt b 3
  let mask := byteAt b 9
  let ceiling := clampNat 3000 13500 (at2 b 25)
  let limit := min ceiling fuses.ceiling.limit
  let pIn := clampNat 1000 20000 (at2 b 40)
  let ratings := zoneBytes b 10
  { station := if at1 b 1 = 0 then addr.toNat + 1 else clampNat 1 8 (at1 b 1)
    fromStraps := decide (at1 b 1 = 0)
    bankSize := clampNat 1 8 (at1 b 2)
    curtailSource := flags.getLsbD 0
    oxidantDisabled := flags.getLsbD 1 || fuses.oxidant
    announcePeriod := periodField (at1 b 4) * 10
    heaterBudget := clampNat 1 4000 (at2 b 5)
    purgeBudget := clampNat 1 2400 (at2 b 7)
    used := ⟨mask.getLsbD 0, mask.getLsbD 1, true, mask.getLsbD 3, mask.getLsbD 4⟩
    rating := PerZone.build fun z => clampNat 10 120 (ratings.get z)
    kp := zoneBytes b 15
    ki := zoneBytes b 20
    ceiling := ceiling
    zoneLimit := limit
    idleTemperature := min (at2 b 27) limit
    idleRate := clampNat 1 250 (at1 b 29)
    settleTime := min (at2 b 30) 600
    tubeVolume := clampNat 10 400 (at2 b 32)
    bleedFloor := min (at1 b 34) 50
    abortPurgeFlow := min (at2 b 35) 300
    abortPurgeRequirement := min (at1 b 37) 200
    abortTimeout := clampNat 60 3600 (at2 b 38)
    pIn := pIn
    pMouth := min (at2 b 42) (pIn - 1)
    pRef := min (at2 b 44) (pIn - 1)
    stallLimit := clampNat 10 500 (at2 b 46)
    slipLimit := clampNat 5 200 (at1 b 48)
    flowTolerance := clampNat 1 20 (at1 b 49) }

/-- Whether applying the image changes a field by a clamp, or forces Z3 into the mask (R188, R189). -/
def imageClamped (b : List Byte) (addr : BitVec 3) (fuses : Fuses) : Bool :=
  let img := applyImage b addr fuses
  let ratings := zoneBytes b 10
  decide (at1 b 1 ≠ 0 ∧ img.station ≠ at1 b 1) || decide (img.bankSize ≠ at1 b 2) ||
  decide (at1 b 4 ≠ 0 ∧ periodField (at1 b 4) ≠ at1 b 4) ||
  decide (img.heaterBudget ≠ at2 b 5) || decide (img.purgeBudget ≠ at2 b 7) || !(byteAt b 9).getLsbD 2 ||
  PerZone.any (fun z => decide (img.rating.get z ≠ ratings.get z)) ||
  decide (img.ceiling ≠ at2 b 25) || decide (img.idleTemperature ≠ at2 b 27) ||
  decide (img.idleRate ≠ at1 b 29) || decide (img.settleTime ≠ at2 b 30) || decide (img.tubeVolume ≠ at2 b 32) ||
  decide (img.bleedFloor ≠ at1 b 34) || decide (img.abortPurgeFlow ≠ at2 b 35) ||
  decide (img.abortPurgeRequirement ≠ at1 b 37) || decide (img.abortTimeout ≠ at2 b 38) ||
  decide (img.pIn ≠ at2 b 40) || decide (img.pMouth ≠ at2 b 42) || decide (img.pRef ≠ at2 b 44) ||
  decide (img.stallLimit ≠ at2 b 46) || decide (img.slipLimit ≠ at1 b 48) || decide (img.flowTolerance ≠ at1 b 49)

end Sys2Proof.Machine
end

