-- ==== Sys2Proof/Machine/Flags.lean ====
section
/-!
DEFINITION. The values the manual derives "at every moment" from the state and holds apart from nothing: conditions,
flags, levels of outputs, grants.
-/
namespace Sys2Proof.Machine

/-! ### Configuration in force -/

/-- "From READY onward" (chapter 11): JOINING and READY. -/
def State.released (s : State) : Bool :=
  match s.cl.startup with
  | .joining | .ready => true
  | _ => false

/-- The image an absent one reads as: no zone used, every number 0. Before READY every reader is at rest but one: the curtail-source
byte of STATUS-READ is taken from it (`statusCurtailment`, log 37). Past that only states that no run reaches depend on it (log 24). -/
def absentImage : Image where
  station := 0
  fromStraps := false
  bankSize := 0
  curtailSource := false
  oxidantDisabled := true
  announcePeriod := 0
  heaterBudget := 0
  purgeBudget := 0
  used := PerZone.build fun _ => false
  rating := PerZone.build fun _ => 0
  kp := PerZone.build fun _ => 0
  ki := PerZone.build fun _ => 0
  ceiling := 0
  zoneLimit := 0
  idleTemperature := 0
  idleRate := 0
  settleTime := 0
  tubeVolume := 0
  bleedFloor := 0
  abortPurgeFlow := 0
  abortPurgeRequirement := 0
  abortTimeout := 0
  pIn := 0
  pMouth := 0
  pRef := 0
  stallLimit := 0
  slipLimit := 0
  flowTolerance := 0

/-- The configuration image in force. -/
def State.image (s : State) : Image := s.cl.image.getD absentImage

/-- The zone is in the used mask of the configuration in force. -/
def State.used (s : State) (z : Zone) : Bool := s.image.used.get z

/-! ### Zones (chapters 2 and 3) -/

/-- A channel or a readback is valid while its good-sample timer is running (R30, R76). -/
def Timer.active : Timer → Bool
  | .running _ => true
  | _ => false

/-- A thermocouple channel is valid (R30). -/
def Channel.valid (c : Channel) : Bool := c.timer.active

/-- One of a zone's two channels. -/
def ZoneMeasurement.channel (m : ZoneMeasurement) : ChannelKind → Channel
  | .profile => m.profile
  | .spike => m.spike

/-- The estimate of DEGRADED: the spike reading plus the learned offset (R31). -/
def ZoneMeasurement.estimate (m : ZoneMeasurement) : Option Int := m.spike.lastGood.map (· + m.offset)

/-- The measured value M of a zone (table of R31). -/
def ZoneMeasurement.measured (m : ZoneMeasurement) : Option Int :=
  match m.state with
  | .normal => m.profile.lastGood
  | .degraded => m.estimate
  | .overtemp =>
    if m.profile.valid then m.profile.lastGood
    else if m.spike.valid then m.estimate
    else none
  | .lostHold | .lost | .unused => none

/-- A zone state in which the zone is controlled. -/
def ZoneState.controlled : ZoneState → Bool
  | .normal | .degraded => true
  | _ => false

/-- What ZM holds of a zone. -/
def State.zoneM (s : State) (z : Zone) : ZoneMeasurement := s.zm.zones.get z

/-- What ZC holds of a zone. -/
def State.zoneC (s : State) (z : Zone) : ZoneControl := s.zc.zones.get z

/-- The reported setpoint SP = floor(SPi / 120) (R48). -/
def ZoneControl.setpoint (c : ZoneControl) : Option Nat := c.spi.map (· / 120)

/-- The integral term I = floor(Ia / 256) (R58). -/
def ZoneControl.integral (c : ZoneControl) : Nat := c.ia / 256

/-- THERMAL-SETTLED: the settle timer stands at the settle time (R55). -/
def State.thermalSettled (s : State) : Bool :=
  decide (s.zc.settle = some (s.image.settleTime * 1000))

/-- The power cap is active (R62). -/
def State.capActive (s : State) : Bool := decide (s.bu.heldHeater * 1000 < s.zc.demand)

/-- The applied drive of a zone (R62), in permille. -/
def State.appliedDrive (s : State) (z : Zone) : Nat :=
  if s.released && s.used z then
    if s.zc.demand ≤ s.bu.heldHeater * 1000 then (s.zoneC z).draw
    else (s.zoneC z).draw * s.bu.heldHeater * 1000 / s.zc.demand
  else 0

/-- The heater output HZ of a zone is high (R64): the time since its window started is below its applied drive. A window
that has run its 1000 ms is the next one at 0 ms: the windows repeat without gap. -/
def State.heaterHigh (s : State) (z : Zone) : Bool :=
  match (s.zoneC z).window with
  | .running t => decide (t % Config.windowMs < s.appliedDrive z)
  | _ => false

/-! ### Boat (chapter 5) -/

/-- The motion states (R88). -/
inductive Motion where
  | rest | moving | droopWait | gated | held
deriving DecidableEq, Repr

/-- The motion state: the first line of R88's table that applies. -/
def State.motion (s : State) : Motion :=
  if s.rs.run = .held then .held
  else if s.bd.move.isNone then .rest
  else if s.bd.gate ≠ .opened then .gated
  else if s.bd.droopWait then .droopWait
  else .moving

/-- The condition BOAT-ARRIVED: the motion state is REST (R13, R88). -/
def State.boatArrived (s : State) : Bool := decide (s.motion = .rest)

/-- Pulsing is allowed: MOVING with C short of the target (R91). -/
def State.pulsing (s : State) : Bool :=
  decide (s.motion = .moving) &&
    match s.bd.move with
    | some m => decide (s.bd.c ≠ m.target)
    | none => false

/-- The speed factor in quarters. -/
def SpeedFactor.quarters : SpeedFactor → Nat
  | .full => 4 | .half => 2 | .quarter => 1

/-- The applied speed s_a in mm/min, absent without a target (R92, R104). R92 forms it from the outstanding target and the speed factor,
and the model gives it wherever a target is outstanding, in MOVING, DROOP-WAIT, GATED and HELD alike; the push example after R102 shows
a dash for it in DROOP-WAIT: DESIGN CHOICE (log 40). -/
def State.appliedSpeed (s : State) : Option Nat :=
  s.bd.move.map fun m => m.speed * s.bd.factor.quarters / 4

/-- The pulse interval in force in µs, absent without a target (R92). -/
def State.pulseInterval (s : State) : Option Nat := s.appliedSpeed.map fun v => 6000000 / v

/-- The following error C − E (R86). -/
def State.followingError (s : State) : Int := (s.bd.c : Int) - s.bd.e

/-- A zone counts in the droop: used, seeded, NORMAL or DEGRADED (R93); then SP − M. -/
def State.zoneDroop (s : State) (z : Zone) : Option Int :=
  if s.used z && (s.zoneM z).state.controlled then
    match (s.zoneC z).setpoint, (s.zoneM z).measured with
    | some sp, some m => some (sp - m)
    | _, _ => none
  else none

/-- The droop d over the door-end zones (R93). -/
def State.doorDroop (s : State) : Int :=
  match s.zoneDroop .z1, s.zoneDroop .z2 with
  | some a, some b => max a b
  | some a, none => a
  | none, some b => b
  | none, none => 0

/-- The move is inward, its target above C, and has a droop limit (R93). -/
def State.droopLimited (s : State) : Bool :=
  match s.bd.move with
  | some m => decide (s.bd.c < m.target ∧ 0 < m.droop)
  | none => false

/-! ### Gas (chapter 4) -/

/-- What GC holds of a line. -/
def State.line (s : State) (l : GasLine) : LineControl := s.gc.lines.get l

/-- A readback is valid (R76). -/
def LineControl.valid (c : LineControl) : Bool := c.timer.active

/-- The end cap is sealed, as GC reads it from READY onward (R72). What STATUS-READ shows of it before READY the manual leaves open;
the model reads it false there, even with SEAL asserted: DESIGN CHOICE (log 37). -/
def State.capSealed (s : State) : Bool := s.released && s.pins.sealed

/-- The boat is at full-in: |E − P_in| ≤ 5 (R72). Before READY no P_in is in force and the model reads false: DESIGN CHOICE (log 37). -/
def State.boatFullIn (s : State) : Bool :=
  s.released && decide (((s.bd.e : Int) - s.image.pIn).natAbs ≤ 5)

/-- Oxidant is disabled by neither the image nor the fuse (R72, R189). Before READY no image is in force and the model reads false:
DESIGN CHOICE (log 37). -/
def State.oxidantEnabled (s : State) : Bool := s.released && !s.image.oxidantDisabled

/-- The oxidant permit: its three conditions together (R72), and so false before READY (log 37). -/
def State.oxidantPermit (s : State) : Bool := s.capSealed && s.boatFullIn && s.oxidantEnabled

/-- The applied flow of a line (R71, R72); 0 before READY. -/
def State.appliedFlow (s : State) (l : GasLine) : Nat :=
  if s.released then
    match l with
    | .purge => min (s.line .purge).commanded s.bu.heldPurge
    | .carrier => (s.line .carrier).commanded
    | .oxidant => if s.oxidantPermit then (s.line .oxidant).commanded else 0
  else 0

/-- The purge target of a requirement in units of the accumulator (R79). -/
def State.purgeUnits (s : State) (x : Nat) : Nat := x * s.image.tubeVolume * 120

/-- PURGE-DONE (R79). -/
def State.purgeDone (s : State) : Bool :=
  match s.gc.requirement with
  | some x => decide (s.purgeUnits x ≤ s.gc.acc)
  | none => false

/-- The accumulator is at or above the abort purge target (R82). -/
def State.abortPurgeMet (s : State) : Bool := decide (s.purgeUnits s.image.abortPurgeRequirement ≤ s.gc.acc)

/-- GC's own purge floor and want from the commanded PURGE flow (R74). -/
def State.purgeDemand (s : State) : Demand :=
  ⟨min (s.line .purge).commanded s.image.bleedFloor, (s.line .purge).commanded⟩

/-! ### Shares (chapter 6) -/

/-- The own rank (R112). -/
def State.rank (s : State) : Nat :=
  if s.released then
    match s.rs.run with
    | .aborting => 3
    | .running | .starved | .held => if s.image.pMouth ≤ s.bd.e then 2 else 1
    | .idle => 0
  else 0

/-- An effective budget: floor(B × level / 100) (R113). -/
def effectiveBudget (budget : Nat) (level : Level) : Nat := budget * level.percent / 100

/-- A station as the share computation counts it (table of R114); the rank of a STALE entry is not used, for its extra is
0. -/
structure Counted where
  floor : Nat
  extra : Nat
  rank : Nat
deriving DecidableEq, Repr

/-- A view entry as counted for one supply (R114). -/
def countEntry (supply : ViewEntry → PeerSupply) (e : ViewEntry) : Counted :=
  if e.stale then ⟨(supply e).held, 0, e.rank⟩
  else ⟨(supply e).floor, (supply e).want - (supply e).floor, e.rank⟩

/-- The sum of the floors, SF (R115). -/
def floorSum (own : Counted) (peers : List Counted) : Nat := own.floor + (peers.map (·.floor)).sum

/-- The extra of one rank, E_k (R116). -/
def rankExtra (own : Counted) (peers : List Counted) (k : Nat) : Nat :=
  (if own.rank = k then own.extra else 0) + ((peers.filter (·.rank = k)).map (·.extra)).sum

/-- The own extra when the ranks are served in this order from remainder `r` (R116). -/
def ownExtra (own : Counted) (peers : List Counted) : List Nat → Nat → Nat
  | [], _ => 0
  | k :: ks, r =>
    let ek := rankExtra own peers k
    if ek = 0 then ownExtra own peers ks r
    else if ek ≤ r then if own.rank = k then own.extra else ownExtra own peers ks (r - ek)
    else if own.rank = k then r * own.extra / ek
    else 0

/-- Which step of R115 decides a grant: 1, 2 or 3. VIEW-READ sends these numbers as the code, which the manual does not give: DESIGN
CHOICE (log 17). -/
def grantStep (beff : Nat) (own : Counted) (peers : List Counted) : Nat :=
  if beff = 0 then 1 else if beff ≤ floorSum own peers then 2 else 3

/-- The normal computation (R115). -/
def normalGrant (beff : Nat) (own : Counted) (peers : List Counted) : Nat :=
  if beff = 0 then 0
  else if beff ≤ floorSum own peers then beff * own.floor / floorSum own peers
  else own.floor + ownExtra own peers [3, 2, 1, 0] (beff - floorSum own peers)

/-- The ISOLATED computation (R117). -/
def isolatedGrant (beff want bankSize : Nat) : Nat := min want (beff / bankSize)

/-- One supply of the share computation (R114). -/
inductive Supply where
  | heater | purge
deriving DecidableEq, Repr

/-- The own floor and want of a supply (R111). -/
def State.ownDemand (s : State) : Supply → Demand
  | .heater => s.bu.heater
  | .purge => s.bu.purge

/-- The effective budget of a supply (R113). -/
def State.beff (s : State) : Supply → Nat
  | .heater => effectiveBudget s.image.heaterBudget s.bu.level
  | .purge => effectiveBudget s.image.purgeBudget s.bu.level

/-- The own station as counted for a supply (R114). -/
def State.ownCounted (s : State) (p : Supply) : Counted :=
  ⟨(s.ownDemand p).floor, (s.ownDemand p).want - (s.ownDemand p).floor, s.rank⟩

/-- A view entry's fields of a supply. -/
def ViewEntry.supply (e : ViewEntry) : Supply → PeerSupply
  | .heater => e.heater
  | .purge => e.purge

/-- The peers as counted for a supply (R114). -/
def State.peersCounted (s : State) (p : Supply) : List Counted := s.bu.view.map (countEntry (·.supply p))

/-- The computed grant of a supply (R114 to R117). -/
def State.computedGrant (s : State) (p : Supply) : Nat :=
  if s.bl.isolated then isolatedGrant (s.beff p) (s.ownDemand p).want s.image.bankSize
  else normalGrant (s.beff p) (s.ownCounted p) (s.peersCounted p)

/-- The held grant of a supply (R119). -/
def State.heldGrant (s : State) : Supply → Nat
  | .heater => s.bu.heldHeater
  | .purge => s.bu.heldPurge

/-- The inputs of the share computation (the list of R114). -/
structure ShareInputs where
  heater : Demand
  purge : Demand
  rank : Nat
  heaterBudget : Nat
  purgeBudget : Nat
  heaterPeers : List Counted
  purgePeers : List Counted
  stations : List Nat
  isolated : Bool
  bankSize : Nat
deriving DecidableEq, Repr

/-- The inputs as they stand. -/
def State.shareInputs (s : State) : ShareInputs where
  heater := s.bu.heater
  purge := s.bu.purge
  rank := s.rank
  heaterBudget := s.beff .heater
  purgeBudget := s.beff .purge
  heaterPeers := s.peersCounted .heater
  purgePeers := s.peersCounted .purge
  stations := s.bu.view.map (·.station)
  isolated := s.bl.isolated
  bankSize := s.image.bankSize

/-! ### Curtailment and link (chapters 7 and 8) -/

/-- The input level that CL1 and CL0 decode to (R147). -/
def inputLevel (cl1 cl0 : Bool) : Level :=
  match cl1, cl0 with
  | false, false => .l100
  | false, true => .l75
  | true, false => .l50
  | true, true => .l25

/-- The input level at this moment. -/
def State.inputLevel (s : State) : Level := Machine.inputLevel s.pins.cl1 s.pins.cl0

/-- The link states that BL reports (R142). -/
inductive LinkState where
  | inactive | joining | normal | isolated | mute | isolatedMute
deriving DecidableEq, Repr

/-- The link state reported (R142). -/
def State.linkState (s : State) : LinkState :=
  match s.bl.phase with
  | .inactive => .inactive
  | .joining => .joining
  | .on =>
    match s.bl.isolated, s.bl.mute with
    | false, false => .normal
    | true, false => .isolated
    | false, true => .mute
    | true, true => .isolatedMute

/-- Some transmit slot is pending (R136). -/
def Bank.anyPending (b : Bank) : Bool := b.curtailSlot.isSome || b.ackSlot.isSome || b.announceSlot

/-- All the conditions of an attempt start hold (R136). -/
def State.mayAttempt (s : State) : Bool :=
  decide (s.bl.phase = .on) && !s.bl.mute && s.bl.attempt.isNone && s.bl.anyPending && decide (s.bl.line = .idle)

/-! ### Faults and port (chapters 9 and 10) -/

/-- The class of a fault kind, with its subject for ZONE-LOST (R157). -/
def faultClass (k : FaultKind) (subject : FaultSubject) : FaultClass :=
  match k with
  | .overtemp | .boatStall | .boatSlip => .abort
  | .zoneLost => if subject = .zone .z3 then .abort else .hold
  | .stepTimeout | .flowDeviation | .sealLost | .markOverflow => .hold
  | .channelFailed | .addressClash | .linkMute | .curtailUnconfirmed | .abortIncomplete | .configDefault => .note

/-- A kind that makes FAULT-PENDING hold: its class is hold or abort (R164). -/
def FaultKind.gates : FaultKind → Bool
  | .channelFailed | .addressClash | .linkMute | .curtailUnconfirmed | .abortIncomplete | .configDefault => false
  | _ => true

/-- FAULT-PENDING (R164). -/
def FaultLog.pending (f : FaultLog) : Bool :=
  f.first.any (·.kind.gates) || f.next.any (·.kind.gates) || f.summary.any FaultKind.gates

/-- ATTN is high while the pending event set is not empty (R180). -/
def Port.attn (p : Port) : Bool := !p.events.isEmpty

/-! ### Completion (chapter 1) -/

/-- The selected conditions other than DWELL hold together (R15). -/
def State.othersHold (s : State) (c : Conditions) : Bool :=
  (!c.thermalSettled || s.thermalSettled) && (!c.boatArrived || s.boatArrived) && (!c.purgeDone || s.purgeDone)

/-- Every condition of the set holds (R14). -/
def State.conditionsHold (s : State) (c : Conditions) : Bool :=
  s.othersHold c && (!c.dwell || s.rs.dwell.holds)

end Sys2Proof.Machine
end

