-- ==== Sys2Proof/Machine/Ops.lean ====
section
/-!
DEFINITION. The operations the commands share: raising events, the reactions that follow every change of an input (boat,
shares, flows), the fault log, and the changes of the run state that a fault may order.
-/
namespace Sys2Proof.Machine

/-! ### Events (R178) -/

/-- The event kinds in the order of R178's table. -/
def EventKind.all : List EventKind :=
  [.stepStarted, .stepDone, .runEnded, .held, .starved, .fault, .boatArrived, .boatGated, .curtail, .link, .ready]

/-- A kind joins the pending event set; the set is kept in the table's order, each kind once. -/
def addEvent (k : EventKind) (set : List EventKind) : List EventKind :=
  EventKind.all.filter fun x => x = k || x ∈ set

/-- A block raises an event (R178). -/
def raiseEvent (k : EventKind) (s : State) : State := { s with lp.events := addEvent k s.lp.events }

/-! ### Reactions to a change (R63, R71, R75, R88, R91, R114) -/

/-- BD follows a change from `s0`: an entry to GATED raises BOAT-GATED (R90); the pulse interval timer restarts when pulsing
becomes allowed and stops when it ceases to be (R91). -/
def boatReact (s0 s1 : State) : State :=
  let s2 := if s0.motion ≠ .gated ∧ s1.motion = .gated then raiseEvent .boatGated s1 else s1
  match s0.pulsing, s1.pulsing with
  | false, true => { s2 with bd.pulse := some 0 }
  | true, false => { s2 with bd.pulse := none }
  | _, _ => s2

/-- A held grant above its computed grant is lowered to it (R120); a fall of the heater grant that makes the cap active sets
the cap-seen flag (R63). -/
def lowerGrants (s : State) : State :=
  let s1 : State := { s with
    bu.heldHeater := min s.bu.heldHeater (s.computedGrant .heater)
    bu.heldPurge := min s.bu.heldPurge (s.computedGrant .purge) }
  { s1 with zc.capSeen := s.zc.capSeen || decide (s1.bu.heldHeater < s.bu.heldHeater) && s1.capActive }

/-- The raise check: a computed grant above its held grant makes the ANNOUNCE slot pending (R121). -/
def raiseCheck (s : State) : State :=
  if s.bu.heldHeater < s.computedGrant .heater ∨ s.bu.heldPurge < s.computedGrant .purge then
    { s with bl.announceSlot := true }
  else s

/-- BU follows a change from `s0`: where an input of R114 changed, the lowering and the raise check. -/
def shareReact (s0 s1 : State) : State :=
  if s0.shareInputs = s1.shareInputs then s1 else raiseCheck (lowerGrants s1)

/-- A line joins the outbound queue unless it is in it already (R75). -/
def joinQueue (l : GasLine) (q : List GasLine) : List GasLine := if l ∈ q then q else q ++ [l]

/-- The lines whose applied flow differs join the outbound queue in the order PURGE, CARRIER, OXIDANT (R75). -/
def flowReact (s0 s1 : State) : State :=
  { s1 with gc.queue :=
      GasLine.all.foldl (fun q l => if s0.appliedFlow l = s1.appliedFlow l then q else joinQueue l q) s1.gc.queue }

/-- What follows at once from one action that took `s0` to `s1` (log 18): BD, then BU, then GC's setpoint records. -/
def commit (s0 s1 : State) : State := flowReact s0 (shareReact s0 (boatReact s0 s1))

/-! ### Fault log (R157 to R160) -/

/-- The fault kinds in the order of R157's table. -/
def FaultKind.all : List FaultKind :=
  [.overtemp, .zoneLost, .channelFailed, .stepTimeout, .flowDeviation, .sealLost, .boatStall, .boatSlip,
   .markOverflow, .addressClash, .linkMute, .curtailUnconfirmed, .abortIncomplete, .configDefault]

/-- The fault record FL forms from a report, the run state, the label in force and the run clock (R158). -/
def formRecord (k : FaultKind) (subject : FaultSubject) (value : FaultValue) (rs : Sequencer) : FaultRecord where
  kind := k
  cls := faultClass k subject
  subject := subject
  label := if rs.run = .idle then none else rs.labelInForce
  runTime := if rs.run = .idle then none else some rs.clock
  value := value

/-- FL places a record (R159). -/
def placeFault (r : FaultRecord) (f : FaultLog) : FaultLog :=
  let f1 : FaultLog :=
    if f.first.isNone then { f with first := some r }
    else if f.next.isNone then { f with next := some r }
    else { f with summary := FaultKind.all.filter fun k => k = r.kind || k ∈ f.summary }
  { f1 with count := satSucc 255 f.count }

/-- FL takes a fault up to its run effect: the record is placed and FAULT raised (R158 to R160). -/
def takeFault (k : FaultKind) (subject : FaultSubject) (value : FaultValue) (s : State) : State :=
  raiseEvent .fault { s with fl := placeFault (formRecord k subject value s.rs) s.fl }

/-! ### The parts of the blocks in a change of the run state -/

/-- Replace what ZC holds of every zone. -/
def mapZoneC (f : Zone → ZoneControl → ZoneControl) (s : State) : State :=
  { s with zc.zones := PerZone.build fun z => f z (s.zoneC z) }

/-- Replace what GC holds of every line. -/
def mapLines (f : GasLine → LineControl → LineControl) (s : State) : State :=
  { s with gc.lines := PerLine.build fun l => f l (s.line l) }

/-- ZC takes the idle source: idle temperature, idle rate, no guarantee; the settle timer stops and the ramp-wait flag
clears (R45, R47, R53). -/
def takeIdleSource (s : State) : State :=
  let s1 := mapZoneC (fun z c => { c with target := if s.used z then some s.image.idleTemperature else none }) s
  { s1 with
    zc.rate := some s.image.idleRate
    zc.band := some 0
    zc.settle := none
    zc.rampWait := false }

/-- GC takes commanded flows and hands BU its floor and want (R69, R74). -/
def commandFlows (flows : PerLine Nat) (s : State) : State :=
  let s1 := mapLines (fun l c => { c with commanded := flows.get l }) s
  { s1 with bu.purge := s1.purgeDemand }

/-- GC releases every FLOW-DEVIATION latch and stops every deviation timer (R80, R81). -/
def releaseLatches (s : State) : State := mapLines (fun _ c => { c with latch := false, devTimer := none }) s

/-- GC takes the IDLE values (R69, R79, R81, R82). -/
def takeIdleFlows (s : State) : State :=
  releaseLatches (commandFlows ⟨s.image.bleedFloor, 0, 0⟩ { s with gc.requirement := none, gc.abortPurge := false })

/-- GC takes the abort values and begins the abort purge (R69, R82). -/
def takeAbortFlows (s : State) : State :=
  commandFlows ⟨s.image.abortPurgeFlow, 0, 0⟩
    { s with gc.requirement := none, gc.acc := 0, gc.abortPurge := true }

/-- BD stops where the encoder stands (R97, R99, R101). -/
def stopBoat (s : State) : State :=
  { s with bd.move := none, bd.droopWait := false, bd.pulse := none, bd.c := s.bd.e }

/-- RS stops the dwell and step-timeout timers (R15, R22). What a stopped dwell timer's elapsed time reads the manual leaves open;
the model sets it to 0: DESIGN CHOICE (log 36). -/
def stopStepTimers (s : State) : State :=
  { s with rs.dwell := ⟨.stopped, 0, false⟩, rs.stepTimer := .stopped }

/-! ### Changes of the run state (R17, R19, R23, R24) -/

/-- The prior state of HELD that a run state gives (R19). -/
def priorOf : RunState → Option PriorState
  | .running => some .running
  | .starved => some .starved
  | _ => none

/-- RS enters HELD, keeping the state it leaves (R19). -/
def enterHeld (s : State) : State :=
  commit s (raiseEvent .held { s with rs.run := .held, rs.prior := priorOf s.rs.run })

/-- RS enters IDLE from a run (R6, R17, R24, R26): the parts in force drop, the run clock stops, ZC and GC take their IDLE
values and RUN-ENDED is raised. -/
def enterIdle (s : State) : State :=
  let s1 : State := stopStepTimers { s with
    rs.run := .idle
    rs.prior := none
    rs.current := none
    rs.thermal := none
    rs.gas := none
    rs.abortTimer := .stopped
    rs.clockPhase := .stopped
    rs.labelInForce := none }
  commit s (raiseEvent .runEnded (takeIdleFlows (takeIdleSource s1)))

/-- The four steps RS takes as one action on entering ABORTING, with what ZC, GC and BD do (R23, R47, R82, R99). -/
def beginAbort (s : State) : State :=
  let s1 : State := stopStepTimers { s with
    rs.run := .aborting
    rs.prior := none
    rs.queue := []
    rs.discarded := s.rs.queue.length
    rs.current := none
    rs.thermal := none
    rs.gas := none
    rs.abortTimer := .running (s.image.abortTimeout * 1000) }
  commit s (stopBoat (takeAbortFlows (takeIdleSource s1)))

/-- GC tests the abort purge while it is in progress; where it is met, RS ends the abort in IDLE (R24, R82). -/
def testAbortPurge (s : State) : State :=
  if s.gc.abortPurge && s.abortPurgeMet then
    if s.rs.run = .aborting then enterIdle s else { s with gc.abortPurge := false }
  else s

/-- RS enters ABORTING; GC's test at entry may end the abort within it (R23, R82). -/
def enterAborting (s : State) : State := testAbortPurge (beginAbort s)

/-! ### An abort order and what it may meet (R23, R162, R166) -/

/-- The run states that an abort order ends (R23, R162). -/
def RunState.abortable : RunState → Bool
  | .running | .starved | .held => true
  | .idle | .aborting => false

/-- RS takes an abort order in the run state it meets; in IDLE and ABORTING it has no effect (R23, R162). -/
def takeAbortOrder (s : State) : State := if s.rs.run.abortable then enterAborting s else s

/-- A command that RS or FL may take before an abort order that reaches the part with it: one that may complete the current step,
or clear the log, REPLY_END with the request it serves among them (R23, R162, R166, log 35). That no other command comes between a
fault and its order is a DESIGN CHOICE (log 35). -/
def meetsOrder : Instr → Bool
  | .dwellExpiry | .zcPeriod | .gcPeriod | .bdEvaluation | .faultClear _ | .runResume _ | .replyEnd => true
  | _ => false

/-- The next waiting command may be taken before an abort order given now (log 35). -/
def State.orderMeets (s : State) : Bool := s.pending.head?.any meetsOrder

/-- FL gives RS an abort order. Where something else reaches RS with it, whether RS takes it first is a free choice (R162, R166,
logs 13 and 35). -/
def giveAbortOrder (meets : Bool) (s : State) : State :=
  if meets && s.rs.run.abortable then
    let s1 : State := { s with free := s.free + 1 }
    if Config.raceOrder s.free % 2 = 0 then takeAbortOrder s1 else { s1 with rs.abortOrdered := true }
  else takeAbortOrder s

/-- RS takes an abort order that waits; where none waits nothing changes (R162, R163, R166). -/
def takeWaitingOrder (s : State) : State :=
  if s.rs.abortOrdered then takeAbortOrder { s with rs.abortOrdered := false } else s

/-- A command that an abort order waits for: RS takes the order after it, unless a further fault has had it taken already (R162, R163,
R166, log 35). -/
def beforeOrder (command : State → State) (s : State) : State :=
  if s.rs.abortOrdered then takeWaitingOrder (command s) else command s

/-! ### A fault whole (R157 to R162) -/

/-- FL takes a fault: placed, raised, and given the run effect of its class; `meets` says whether something else reaches RS with an
abort order. -/
def reportFaultMeeting (meets : Bool) (k : FaultKind) (subject : FaultSubject) (value : FaultValue) (s : State) : State :=
  let s1 := takeFault k subject value s
  match faultClass k subject, s.rs.run with
  | .hold, .running | .hold, .starved => enterHeld s1
  | .abort, _ => giveAbortOrder meets s1
  | _, _ => s1

/-- FL takes a fault whole (R157 to R162). -/
def reportFault (k : FaultKind) (subject : FaultSubject) (value : FaultValue) (s : State) : State :=
  reportFaultMeeting s.orderMeets k subject value s

end Sys2Proof.Machine
end

