-- ==== Sys2Proof/Machine/Peers.lean ====
section
/-!
DEFINITION. The peer view and curtailment: the meanings of ANNOUNCE_RECEIVED, CURTAIL_RECEIVED, CURTAIL_ACK_RECEIVED,
ENTRY_STALE, ENTRY_REMOVED, CURTAIL_INPUT_CHANGE, DEBOUNCE_TIMER_EXPIRY and ACK_TIMER_EXPIRY (R106 to R110, R133, R140,
R146 to R154).
-/
namespace Sys2Proof.Machine

/-! ### A valid frame at BL (R130, R133, R140) -/

/-- BL takes a frame now: from JOINING on, one that began on an idle line, or the rest of one in which it stopped
transmitting (R132, log 10). -/
def State.receiving (s : State) : Bool :=
  decide (s.bl.phase ≠ .inactive) &&
    match s.bl.line with
    | .idle => true
    | .busy => s.bl.attempt.isNone
    | .stopped | .recessive _ => false

/-- A frame has ended complete: the idle count runs from its last cell (R130, log 10). -/
def frameEnds (s : State) : State := { s with bl.line := .recessive 0 }

/-- The idle count after dominant activity that is no frame (R130, R132). -/
def glitchLine : Line → Line
  | .idle | .recessive _ => .recessive 0
  | .stopped => .stopped
  | .busy => .busy

/-- Dominant activity that is no frame: not counted, and the idle count restarts (R130, R132). -/
def noFrame (s : State) : State := { s with bl.line := glitchLine s.bl.line }

/-- A frame arrives: taken where BL receives, and otherwise no frame to it (R132). -/
def meetFrame (effect : State → State) (s : State) : State :=
  if s.receiving then effect (frameEnds s) else noFrame s

/-- A valid peer frame restarts the silence timer and ends ISOLATED, with LINK (R133, R140). -/
def peerHeard (s : State) : State :=
  let s1 : State := { s with bl.silence := .running (5 * s.image.announcePeriod) }
  if s.bl.isolated then raiseEvent .link (commit s { s1 with bl.isolated := false }) else s1

/-- A peer frame's effect at BL and its effect in BU. The frame that ends ISOLATED has them in either order: a free choice
(R117, log 16). -/
def withPeerFrame (effect : State → State) (s : State) : State :=
  if s.bl.isolated then
    let s1 : State := { s with free := s.free + 1 }
    if Config.raceOrder s.free % 2 = 0 then effect (peerHeard s1) else peerHeard (effect s1)
  else effect (peerHeard s)

/-- A valid frame of a kind the part uses: with the own number it is ADDRESS-CLASH, otherwise a peer frame (R107, R133). -/
def receiveFrame (station : StationCode) (effect : State → State) : State → State :=
  meetFrame fun s =>
    if stationNumber station = s.image.station then
      reportFault .addressClash (.station (stationNumber station)) (.number (stationNumber station)) s
    else withPeerFrame effect s

/-! ### The level in force (R146) and the frames the mechanism queues (R134, R148, R149) -/

/-- The level in force is set; a change is followed by the grants and raises CURTAIL (R146). -/
def setLevel (level : Level) (s : State) : State :=
  if level = s.bu.level then s else raiseEvent .curtail (commit s { s with bu.level := level })

/-- The attempt in progress after its slot's contents were replaced (R134). -/
def markReplaced (code : BitVec 3) (a : Attempt) : Attempt :=
  if a.frame.code = code then { a with replaced := true } else a

/-- A CURTAIL frame is queued (R134, R148). -/
def queueCurtail (level : Level) (s : State) : State :=
  { s with bl.curtailSlot := some level, bl.attempt := s.bl.attempt.map (markReplaced 1) }

/-- A CURTAIL-ACK frame is queued (R134, R149). -/
def queueAck (a : AckContents) (s : State) : State :=
  { s with bl.ackSlot := some a, bl.attempt := s.bl.attempt.map (markReplaced 2) }

/-- The content error count rises (R107, R149, R151). -/
def countContentError (s : State) : State :=
  { s with bu.contentErrors := satSucc Config.count16 s.bu.contentErrors }

/-! ### ANNOUNCE (R107, R108, R154) -/

/-- The entry an ANNOUNCE body gives its station, where it passes the checks of R107. -/
def readAnnounce (station : Nat) (b : AnnounceBody) : Option ViewEntry :=
  let heater : PeerSupply := ⟨b.heaterFloor.toNat, b.heaterWant.toNat, b.heaterHeld.toNat⟩
  let purge : PeerSupply := ⟨b.purgeFloor.toNat, b.purgeWant.toNat, b.purgeHeld.toNat⟩
  if heater.floor ≤ heater.want ∧ heater.want ≤ 4000 ∧ heater.held ≤ 4000 ∧
      purge.floor ≤ purge.want ∧ purge.want ≤ 2400 ∧ purge.held ≤ 2400 ∧ b.rank.toNat ≤ 3 then
    match readRunState b.runSummary, readLevel b.level with
    | some run, some level => some ⟨station, heater, purge, b.rank.toNat, run, level, 0, false⟩
    | _, _ => none
  else none

/-- An entry enters the view in place of its station's earlier one; the list is kept by rising station number (R106,
R108). -/
def insertEntry (e : ViewEntry) : List ViewEntry → List ViewEntry
  | [] => [e]
  | x :: xs =>
    if e.station < x.station then e :: x :: xs
    else if e.station = x.station then e :: xs
    else x :: insertEntry e xs

/-- The lower of two levels (R154). -/
def Level.lower (a b : Level) : Level := if b.percent < a.percent then b else a

/-- R154 lets this station take a level from ANNOUNCE frames now. -/
def State.adoptsAnnounced (s : State) : Bool :=
  decide (s.bl.phase = .joining) && !s.image.curtailSource && !s.bu.frameHeard

/-- BU takes an entry into its view, and in JOINING perhaps its level (R108, R154). -/
def takeEntry (e : ViewEntry) (s : State) : State :=
  let s1 := commit s { s with bu.view := insertEntry e s.bu.view }
  if s1.adoptsAnnounced then setLevel (s1.bu.level.lower e.level) s1 else s1

/-- BU takes an ANNOUNCE body of a peer (R107, R108). -/
def takeAnnounce (station : Nat) (b : AnnounceBody) (s : State) : State :=
  match readAnnounce station b with
  | some e => takeEntry e s
  | none => countContentError s

/-! ### CURTAIL and CURTAIL-ACK (R149 to R151) -/

/-- BU takes a CURTAIL of a peer (R149). -/
def takeCurtail (station : Nat) (level : Byte) (s : State) : State :=
  match readLevel level with
  | none => countContentError s
  | some l =>
    let s1 := setLevel l s
    queueAck ⟨l, station⟩ { s1 with bu.frameHeard := true }

/-- An acknowledgement takes its station out of the expected set; an emptied set ends the collection confirmed (R151). -/
def acknowledge (station : Nat) (c : Collection) : Option Collection :=
  if (c.expected.erase station).isEmpty then none else some { c with expected := c.expected.erase station }

/-- BU takes a CURTAIL-ACK of a peer (R151). -/
def takeAck (station : Nat) (level origin : Byte) (s : State) : State :=
  match readLevel level, decide (1 ≤ origin.toNat ∧ origin.toNat ≤ 8) with
  | some l, true =>
    match s.bu.collection with
    | some c =>
      if l = c.level ∧ origin.toNat = s.image.station then { s with bu.collection := acknowledge station c } else s
    | none => s
  | _, _ => countContentError s

/-! ### Local adoption (R148, R153) -/

/-- The source adopts its debounced input level (R148): the level, an end to a collection without a fault, and a CURTAIL. -/
def adoptLocal (s : State) : State :=
  let s1 := setLevel s.bu.debounced s
  queueCurtail s.bu.debounced { s1 with bu.collection := none }

/-! ### Meanings -/

/-- ANNOUNCE_RECEIVED (R107, R108, R154). -/
def execAnnounceReceived (station : StationCode) (body : AnnounceBody) (s : State) : Host.Outcome State Fault Refusal :=
  .next (receiveFrame station (takeAnnounce (stationNumber station) body) s)

/-- CURTAIL_RECEIVED (R107, R149). -/
def execCurtailReceived (station : StationCode) (level : Byte) (s : State) : Host.Outcome State Fault Refusal :=
  .next (receiveFrame station (takeCurtail (stationNumber station) level) s)

/-- CURTAIL_ACK_RECEIVED (R107, R151). -/
def execCurtailAckReceived (station : StationCode) (level origin : Byte) (s : State) :
    Host.Outcome State Fault Refusal :=
  .next (receiveFrame station (takeAck (stationNumber station) level origin) s)

/-- An entry whose age reaches 3 announce periods (R109). -/
def staleEntry (p n : Nat) (e : ViewEntry) : ViewEntry :=
  if e.station = n ∧ !e.stale then { e with stale := true, age := max e.age (3 * p) } else e

/-- ENTRY_STALE: the entry becomes STALE and the shares follow (R109). -/
def execEntryStale (n : Nat) (s : State) : Host.Outcome State Fault Refusal :=
  .next (commit s { s with bu.view := s.bu.view.map (staleEntry s.image.announcePeriod n) })

/-- ENTRY_REMOVED: the entry leaves the view and the shares follow (R109). -/
def execEntryRemoved (n : Nat) (s : State) : Host.Outcome State Fault Refusal :=
  .next (commit s { s with bu.view := s.bu.view.filter (·.station ≠ n) })

/-- The debounce timer after the input level has taken a value (R147). -/
def debounceTimer (input debounced : Level) : Timer :=
  if input = debounced then .stopped else .running Config.debounceMs

/-- CURTAIL_INPUT_CHANGE: at a curtail source from READY onward a changed input level starts, restarts or stops the debounce
timer (R147). -/
def execCurtailInputChange (cl1 cl0 : Bool) (s : State) : Host.Outcome State Fault Refusal :=
  .next (
    let s1 : State := { s with pins.cl1 := cl1, pins.cl0 := cl0 }
    if s.released ∧ s.image.curtailSource ∧ s1.inputLevel ≠ s.inputLevel then
      { s1 with bu.debounce := debounceTimer s1.inputLevel s.bu.debounced }
    else s1)

/-- DEBOUNCE_TIMER_EXPIRY: the input level becomes the debounced one and is adopted (R147, R148). The timer that has run out is stopped,
as STATUS-READ then shows it: DESIGN CHOICE (log 42). -/
def execDebounceTimerExpiry (s : State) : Host.Outcome State Fault Refusal :=
  .next (
    if s.bu.debounce.active then
      adoptLocal { s with bu.debounced := s.inputLevel, bu.debounce := .stopped }
    else s)

/-- ACK_TIMER_EXPIRY: CURTAIL-UNCONFIRMED for the stations still expected, and the collection ends (R152). -/
def execAckTimerExpiry (s : State) : Host.Outcome State Fault Refusal :=
  .next (
    match s.bu.collection with
    | some c =>
      if c.timer.active then
        let s1 := if c.expected.isEmpty then s
          else reportFault .curtailUnconfirmed (.stations c.expected) (.stations c.expected) s
        { s1 with bu.collection := none }
      else s
    | none => s)

end Sys2Proof.Machine
end

