-- ==== Sys2Proof/Machine/BankLine.lean ====
section
/-!
DEFINITION. The bank line interface: the meanings of BANK_FRAME_ERROR, OTHER_KIND_FRAME, LINE_IDLE, BANK_LINE_GLITCH,
ATTEMPT_START, ARBITRATION_LOST, ATTEMPT_ABANDONED, TRANSMIT_COMPLETION and of the announce, listen, silence and mute timers
(R130 to R142, with R122, R123 and R150 in BU).
-/
namespace Sys2Proof.Machine

/-! ### Receiving and the idle count (R130, R132, R133) -/

/-- A discarded frame is counted (R133). -/
def countRxError (s : State) : State := { s with bl.rxErrors := satSucc Config.count16 s.bl.rxErrors }

/-- BANK_FRAME_ERROR: a malformed frame or a CRC failure is discarded and counted (R132, R133). A frame that passes every check
is not one. -/
def execBankFrameError (f : WireFrame) (s : State) : Host.Outcome State Fault Refusal :=
  .next (if frameDiscarded f then meetFrame countRxError s else s)

/-- OTHER_KIND_FRAME: a valid frame of a kind the part does not use is dropped without counting; from a peer it restarts the
silence timer and ends ISOLATED (R133, R140). -/
def execOtherKindFrame (code : BitVec 3) (station : StationCode) (_body : List Byte) (s : State) :
    Host.Outcome State Fault Refusal :=
  .next (
    if (kindLength code).isNone then
      meetFrame (fun s1 => if stationNumber station = s1.image.station then s1 else peerHeard s1) s
    else s)

/-- LINE_IDLE: the idle count reaches 12 bit times (R130). During an attempt of its own the line is not recessive so long. -/
def execLineIdle (s : State) : Host.Outcome State Fault Refusal :=
  .next (if s.bl.phase ≠ .inactive ∧ s.bl.attempt.isNone then { s with bl.line := .idle } else s)

/-- BANK_LINE_GLITCH: ignored and not counted; the idle count restarts (R130). -/
def execBankLineGlitch (s : State) : Host.Outcome State Fault Refusal := .next (noFrame s)

/-! ### Attempts (R122, R134, R136) -/

/-- The held field of a supply: the larger of the computed and the held grant (R122). -/
def State.heldField (s : State) (p : Supply) : Nat := max (s.computedGrant p) (s.heldGrant p)

/-- The ANNOUNCE body that BU fills at an attempt start (R122). -/
def State.announceBody (s : State) : AnnounceBody where
  heaterFloor := BitVec.ofNat 16 s.bu.heater.floor
  heaterWant := BitVec.ofNat 16 s.bu.heater.want
  heaterHeld := BitVec.ofNat 16 (s.heldField .heater)
  purgeFloor := BitVec.ofNat 16 s.bu.purge.floor
  purgeWant := BitVec.ofNat 16 s.bu.purge.want
  purgeHeld := BitVec.ofNat 16 (s.heldField .purge)
  rank := BitVec.ofNat 8 s.rank
  runSummary := BitVec.ofNat 8 s.rs.run.code
  level := BitVec.ofNat 8 s.bu.level.percent

/-- The frame of the pending slot with the lowest kind code (R136). -/
def State.nextFrame (s : State) : OwnFrame :=
  match s.bl.curtailSlot, s.bl.ackSlot with
  | some level, _ => .curtail level
  | none, some a => .ack a.level a.origin
  | none, none => .announce s.announceBody

/-- The bytes of the frame in flight on the line: its header carries the station number in force (R131, R189). -/
def State.frameInFlight (s : State) : Option (List Byte) := s.bl.attempt.map fun a => a.frame.bytes s.image.station

/-- The cells of the frame in flight, in the order of their sending; a station that is not transmitting has none (R129, R131). -/
def State.cellsInFlight (s : State) : List Cell :=
  match s.bl.attempt with
  | some a => a.frame.cells s.image.station
  | none => []

/-- The part drives the bank line dominant this many µs after the start of the attempt under way; with no attempt it drives nothing
and leaves the line recessive (R129). -/
def State.drivesBankLine (s : State) (us : Nat) : Bool :=
  s.cellsInFlight[us / Config.cellUs]?.any (·.drivesAt (us % Config.cellUs))

/-- How the attempt under way ends by the bits read back in its cells, the SOF's first: the command that says so, none while it goes
on (R136 to R138). -/
def State.attemptEnd (s : State) (readBack : List Bool) : Option Instr :=
  if s.bl.attempt.isSome then cellsEnd 0 s.cellsInFlight readBack else none

/-- ATTEMPT_START: where every condition of R136 holds, the chosen slot's contents are copied into the frame in flight and the
line is no longer idle (R134, R136). -/
def execAttemptStart (s : State) : Host.Outcome State Fault Refusal :=
  .next (
    if s.mayAttempt then { s with bl.attempt := some ⟨s.nextFrame, false⟩, bl.line := .busy } else s)

/-- ARBITRATION_LOST: the attempt ends with every slot as it was, and BL reads on in the other station's frame: the line is still
busy (R132, R136). -/
def execArbitrationLost (s : State) : Host.Outcome State Fault Refusal :=
  .next (if s.bl.attempt.isSome then { s with bl.attempt := none } else s)

/-- The link enters MUTE at the eighth abandonment in a row: LINK-MUTE, the mute timer, LINK (R141). -/
def enterMute (s : State) : State :=
  raiseEvent .link (reportFault .linkMute .none .absent
    { s with bl.mute := true, bl.muteTimer := .running Config.muteMs })

/-- ATTEMPT_ABANDONED: the attempt ends without a completion and the consecutive-abandon count rises; at 8 the link enters
MUTE. BL reads on in the frame as a receiver: the line is still busy (R132, R137, R141, log 32). -/
def execAttemptAbandoned (s : State) : Host.Outcome State Fault Refusal :=
  .next (
    if s.bl.attempt.isSome then
      let s1 : State := { s with
        bl.attempt := none
        bl.abandons := satSucc Config.abandonLimit s.bl.abandons }
      if s1.bl.abandons = Config.abandonLimit then enterMute s1 else s1
    else s)

/-! ### Completion (R123, R134, R138, R150) -/

/-- BU applies an ANNOUNCE completion: each held grant rises to the smaller of the frame's field and the computed grant, and the
raise check follows (R123). -/
def completeAnnounce (b : AnnounceBody) (s : State) : State :=
  let s1 : State := { s with
    bu.heldHeater := max s.bu.heldHeater (min b.heaterHeld.toNat (s.computedGrant .heater))
    bu.heldPurge := max s.bu.heldPurge (min b.purgeHeld.toNat (s.computedGrant .purge))
    bl.announceSlot := false }
  raiseCheck (commit s s1)

/-- The stations of the FRESH entries (R150). -/
def State.freshStations (s : State) : List Nat := (s.bu.view.filter (!·.stale)).map (·.station)

/-- The ack collection that a completed CURTAIL starts; with nobody expected it ends at once (R150). -/
def State.startCollection (s : State) (level : Level) : Option Collection :=
  if s.freshStations.isEmpty then none else some ⟨level, s.freshStations, .running Config.ackMs⟩

/-- The slot of the completed kind and what BU makes of the completion (R123, R134, R150). -/
def completeFrame (a : Attempt) (s : State) : State :=
  match a.frame with
  | .announce b => completeAnnounce b s
  | .curtail level =>
    if a.replaced then s else { s with bl.curtailSlot := none, bu.collection := s.startCollection level }
  | .ack _ _ => if a.replaced then s else { s with bl.ackSlot := none }

/-- TRANSMIT_COMPLETION: the attempt ends complete, the consecutive-abandon count is 0, and BU is told (R138). -/
def execTransmitCompletion (s : State) : Host.Outcome State Fault Refusal :=
  .next (
    match s.bl.attempt with
    | some a => completeFrame a { frameEnds s with bl.attempt := none, bl.abandons := 0 }
    | none => s)

/-! ### Timers of the link (R135, R139 to R141) -/

/-- ANNOUNCE_TIMER_EXPIRY: the ANNOUNCE slot becomes pending and the timer runs on (R135). -/
def execAnnounceTimerExpiry (s : State) : Host.Outcome State Fault Refusal :=
  .next (
    if s.bl.announce.active then
      { s with bl.announceSlot := true, bl.announce := .running s.image.announcePeriod }
    else s)

/-- LISTEN_TIMER_EXPIRY: JOINING ends; the first ANNOUNCE is queued, the announce timer starts, LINK is raised, and the start-up
state becomes READY (R135, R139, R190). The listen timer that has run out is stopped, as STATUS-READ then shows it: DESIGN CHOICE
(log 42). -/
def execListenTimerExpiry (s : State) : Host.Outcome State Fault Refusal :=
  .next (
    if s.bl.phase = .joining ∧ s.bl.listen.active then
      raiseEvent .link { s with
        cl.startup := .ready
        bl.phase := .on
        bl.listen := .stopped
        bl.announceSlot := true
        bl.announce := .running s.image.announcePeriod }
    else s)

/-- SILENCE_TIMER_EXPIRY: the timer stays expired, and with a bank size above 1 the link becomes ISOLATED, with LINK (R140). -/
def execSilenceTimerExpiry (s : State) : Host.Outcome State Fault Refusal :=
  .next (
    if s.bl.phase = .on ∧ s.bl.silence.active then
      let s1 : State := { s with bl.silence := .expired }
      if 1 < s.image.bankSize then raiseEvent .link (commit s { s1 with bl.isolated := true }) else s1
    else s)

/-- MUTE_TIMER_EXPIRY: MUTE ends with the consecutive-abandon count at 0, and LINK is raised (R141). The mute timer that has run out is
stopped, as STATUS-READ then shows it: DESIGN CHOICE (log 42). -/
def execMuteTimerExpiry (s : State) : Host.Outcome State Fault Refusal :=
  .next (
    if s.bl.mute ∧ s.bl.muteTimer.active then
      raiseEvent .link { s with bl.mute := false, bl.muteTimer := .stopped, bl.abandons := 0 }
    else s)

end Sys2Proof.Machine
end

