-- ==== Sys2Proof/Machine/RunOps.lean ====
section
/-!
DEFINITION. What RS does with a step: the target BD takes, the step start, the dwell timer and the completion (R12 to R17,
R87, R94, R96).
-/
namespace Sys2Proof.Machine

/-! ### Boat parts of a step start -/

/-- The row of R94's table for droop `d`, limit `l` and the flag and factor before: factor and flag after. -/
def droopRow (wait : Bool) (factor : SpeedFactor) (l : Nat) (d : Int) : SpeedFactor × Bool :=
  if d ≤ (l / 2 : Nat) then (.full, false)
  else if wait then (factor, true)
  else if d ≤ (3 * l / 4 : Nat) then (.half, false)
  else if d ≤ l then (.quarter, false)
  else (factor, true)

/-- The droop evaluation (R93, R94): made while a move is outstanding and the run state is not HELD; an outward move and a
move without a droop limit keep 4/4 and a clear flag. -/
def evaluateDroop (s : State) : State :=
  match s.bd.move with
  | none => s
  | some m =>
    if s.rs.run = .held then s
    else if s.droopLimited then
      let row := droopRow s.bd.droopWait s.bd.factor m.droop s.doorDroop
      { s with bd.factor := row.1, bd.droopWait := row.2, bd.droop := some s.doorDroop }
    else { s with bd.factor := .full, bd.droopWait := false, bd.droop := none }

/-- The arrival test passes: C at the target and |C − E| ≤ 5 (R96). -/
def State.arrives (s : State) : Bool :=
  match s.bd.move with
  | some m => decide (s.bd.c = m.target ∧ s.followingError.natAbs ≤ 5)
  | none => false

/-- The arrival test and what BD does when it passes (R96). -/
def testArrival (s : State) : State :=
  if s.arrives then
    raiseEvent .boatArrived { s with bd.move := none, bd.droopWait := false, bd.pulse := none }
  else s

/-- BD takes a target record, as one action (R87); the pulse interval timer restarts with it (R91, log 14). -/
def takeTarget (m : BoatPart) (s : State) : State :=
  let s1 : State := { s with
    bd.move := some m
    bd.bdir := if s.bd.c < m.target then true else if m.target < s.bd.c then false else s.bd.bdir
    bd.droopWait := false
    bd.factor := .full }
  let s2 := testArrival (evaluateDroop s1)
  { s2 with bd.pulse := if s2.pulsing then some 0 else none }

/-! ### Step start (R12) -/

/-- ZC receives a thermal part (R46). -/
def takeThermal (p : ThermalPart) (s : State) : State :=
  let s1 := mapZoneC (fun z c => { c with target := if s.used z then some (p.targets.get z) else none }) s
  { s1 with zc.rate := some p.rate, zc.band := some p.band, zc.settle := none }

/-- GC receives a gas part (R70). -/
def takeGas (p : GasPart) (s : State) : State :=
  commandFlows p.flows { s with gc.requirement := some p.requirement }

/-- Hand a part over where the record has one (R6). -/
def handOver {α : Type} (part : Option α) (take : α → State → State) (s : State) : State :=
  match part with
  | some p => take p s
  | none => s

/-- RS makes a record the current step and keeps its parts in force (steps 1 to 3 of R12, R26). -/
def makeCurrent (r : StepRecord) (s : State) : State :=
  { s with
    rs.run := .running
    rs.prior := none
    rs.current := some r
    rs.labelInForce := some r.label
    rs.thermal := r.thermal.or s.rs.thermal
    rs.gas := r.gas.or s.rs.gas }

/-- The step timeout timer of a step (R22). -/
def timeoutTimer (r : StepRecord) : Timer := if r.timeout = 0 then .stopped else .running (r.timeout * 1000)

/-- The timers of a step start (step 6 of R12). -/
def armStepTimers (r : StepRecord) (s : State) : State :=
  { s with rs.dwell := ⟨.armed, 0, false⟩, rs.stepTimer := timeoutTimer r }

/-- A step start up to its evaluation, as one action (steps 1 to 8 of R12); the record has left the queue. -/
def startStep (r : StepRecord) (s : State) : State :=
  let s1 := handOver r.boat takeTarget (handOver r.gas takeGas (handOver r.thermal takeThermal (makeCurrent r s)))
  let s2 := releaseLatches (armStepTimers r { s1 with gc.acc := 0 })
  commit s (raiseEvent .stepStarted s2)

/-! ### Dwell and completion (R14 to R17) -/

/-- The dwell timer at an evaluation: an armed one starts counting once every other selected condition holds, and DWELL holds
from the moment the elapsed time reaches the dwell time (R15). -/
def updateDwell (s : State) : State :=
  match s.rs.current with
  | none => s
  | some r =>
    if s.rs.run = .running ∧ r.conditions.dwell then
      match s.rs.dwell.phase with
      | .armed =>
        if s.othersHold r.conditions then
          { s with rs.dwell := ⟨.counting, s.rs.dwell.elapsed, decide (r.dwell = 0)⟩ }
        else s
      | .counting =>
        if r.dwell * 1000 ≤ s.rs.dwell.elapsed then { s with rs.dwell.holds := true } else s
      | .stopped => s
    else s

/-- A step stops being current by completion (steps 1 and 2 of R16). -/
def finishStep (r : StepRecord) (s : State) : State :=
  raiseEvent .stepDone (stopStepTimers { s with
    rs.current := none
    rs.lastLabel := some r.label
    rs.done := satSucc Config.count16 s.rs.done })

/-- RS evaluates completion and, where a step completes, goes on to the next, which its start evaluates in turn (R14, R16).
The queue gets shorter each time: `fuel` one above its length is enough. -/
def evaluateLoop : Nat → State → State
  | 0, s => s
  | fuel + 1, s0 =>
    let s := updateDwell s0
    match s.rs.run, s.rs.current with
    | .running, some r =>
      if s.conditionsHold r.conditions then
        let s1 := finishStep r s
        if r.last then enterIdle s1
        else
          match s1.rs.queue with
          | [] => raiseEvent .starved { s1 with rs.run := .starved }
          | next :: rest => evaluateLoop fuel (startStep next { s1 with rs.queue := rest })
      else s
    | _, _ => s

/-- RS evaluates completion (R14). -/
def evaluate (s : State) : State := evaluateLoop (s.rs.queue.length + 1) s

/-- A step start with its evaluation (R12). -/
def stepStart (r : StepRecord) (s : State) : State := evaluate (startStep r s)

/-- The head of the queue leaves it and becomes current (R12); an empty queue changes nothing. -/
def startHead (s : State) : State :=
  match s.rs.queue with
  | [] => s
  | next :: rest => stepStart next { s with rs.queue := rest }

end Sys2Proof.Machine
end

