-- ==== Sys2Proof/Machine/BoatDrive.lean ====
section
/-!
DEFINITION. Boat Drive: the meanings of ENCODER_COUNT, STEP_PULSE, LOADCLR_ASSERT, LOADCLR_DEASSERT, RECLEAR_TIMER_EXPIRY,
MARK_CAPTURE and BD_EVALUATION (R86 to R101).
-/
namespace Sys2Proof.Machine

/-! ### Encoder (R86) -/

/-- The pins after a change of level of one encoder input. -/
def toggleEncoder (line : EncoderLine) (p : Pins) : Pins :=
  match line with
  | .a => { p with encA := !p.encA }
  | .b => { p with encB := !p.encB }

/-- The direction of a count, from the input that changed and the levels after it (R86). -/
def countDirection (line : EncoderLine) (p : Pins) : Direction :=
  match line with
  | .a => if p.encA = p.encB then .outward else .inward
  | .b => if p.encA = p.encB then .inward else .outward

/-- The encoder position after a count; a count past a bound is lost (R86). -/
def countPosition (d : Direction) (e : Nat) : Nat :=
  match d with
  | .inward => if e < Config.positionMax then e + 1 else e
  | .outward => e - 1

/-- BD takes a quadrature count; a lost count gives the direction all the same (R86, log 33). -/
def takeCount (line : EncoderLine) (p : Pins) (s : State) : State :=
  let d := countDirection line p
  { s with pins := p, bd.dir := d, bd.e := countPosition d s.bd.e }

/-! ### Evaluation stage 1: marks (R101) -/

/-- A position decreased by `diff`, clamped to its range (R101). -/
def rebasePosition (diff : Int) (x : Nat) : Nat := (clampInt 0 Config.positionMax (x - diff)).toNat

/-- A mark lies beyond the slip limit of a referenced boat (table of R101). -/
def State.slips (s : State) (diff : Int) : Bool :=
  s.bd.referenced && decide (s.image.slipLimit < diff.natAbs)

/-- BD stops an outstanding move (R97, R101). -/
def stopMove (s : State) : State := if s.bd.move.isSome then stopBoat s else s

/-- BD reports a fault of the move and stops it. An abort order that waits is taken before this further fault (R163). The stop may
complete a step, so with a move outstanding whether RS takes the fault's own order before it is a free choice (R97, R101, R162,
log 13). -/
def faultAndStop (k : FaultKind) (value : FaultValue) (s : State) : State :=
  let s1 := takeWaitingOrder s
  stopMove (reportFaultMeeting (s1.bd.move.isSome || s1.orderMeets) k .none value s1)

/-- The head of the mark queue has been taken (R101). Where the correction carries C past the target, BDIR keeps its level while C is
pulsed back: DESIGN CHOICE (log 38). -/
def handleMark (m : Mark) (s : State) : State :=
  let diff : Int := (m.position : Int) - s.image.pRef
  if s.slips diff then
    commit s (faultAndStop .boatSlip (.number diff)
      { s with bd.lastMark := some ⟨m.position, m.direction, diff, .slip⟩ })
  else
    commit s { s with
      bd.e := rebasePosition diff s.bd.e
      bd.c := rebasePosition diff s.bd.c
      bd.referenced := true
      bd.lastMark := some ⟨m.position, m.direction, diff, .rebase⟩ }

/-- Stage 1. -/
def markStage (s : State) : State :=
  match s.bd.marks with
  | [] => s
  | m :: rest => handleMark m { s with bd.marks := rest }

/-! ### Stages 2 to 4 (R95) -/

/-- Stages 2 and 4 are made (R95). -/
def State.moveTested (s : State) : Bool := s.bd.move.isSome && decide (s.rs.run ≠ .held)

/-- Stage 2: the stall test (R97). -/
def stallStage (s : State) : State :=
  if s.moveTested ∧ s.image.stallLimit < s.followingError.natAbs then
    commit s (faultAndStop .boatStall (.number s.followingError) s)
  else s

/-- Stage 3: the droop evaluation (R94). -/
def droopStage (s : State) : State := commit s (evaluateDroop s)

/-- Stage 4: the arrival test (R96). -/
def arrivalStage (s : State) : State := if s.moveTested then commit s (testArrival s) else s

/-- The four stages of an evaluation in order (R95). -/
def evaluationStages (s : State) : State := arrivalStage (droopStage (stallStage (markStage s)))

/-! ### Marks (R100) -/

/-- BD captures a mark, or discards it with MARK-OVERFLOW where the queue is full (R100). -/
def captureMark (s : State) : State :=
  if s.bd.marks.length < Config.markCapacity then
    { s with bd.marks := s.bd.marks ++ [⟨s.bd.e, s.bd.dir⟩] }
  else reportFault .markOverflow .none (.number s.bd.e) s

/-! ### Meanings -/

/-- ENCODER_COUNT: an encoder input changes level; before READY the count is not taken (R86). -/
def execEncoderCount (line : EncoderLine) (s : State) : Host.Outcome State Fault Refusal :=
  .next (
    let p := toggleEncoder line s.pins
    if s.released then commit s (takeCount line p s) else { s with pins := p })

/-- C moved by 1 toward the target (R91), whatever level BDIR has (log 38). -/
def stepToward (target c : Nat) : Nat := if c < target then c + 1 else c - 1

/-- How long the `n`-th pulse on BSTEP is high, in µs: free between 1 and 9999, so that a pulse is over before the next, which comes 10,000 µs
after it at the soonest (R91, R92, log 44). -/
def stepPulseUs (n : Nat) : Nat := Config.pulseWidth n % 9999 + 1

/-- The level of BSTEP this many µs after the start of the latest pulse: high for the pulse, low after it, and low throughout where no
pulse has been driven since reset (R91, R105, log 44). -/
def State.bstepLevel (s : State) (us : Nat) : Bool := decide (0 < s.bd.pulses) && decide (us < stepPulseUs s.bd.pulses)

/-- The level of BDIR: high is inward (R87, R105). -/
def State.bdirLevel (s : State) : Bool := s.bd.bdir

/-- STEP_PULSE: while pulsing is allowed, one pulse on BSTEP, C one nearer the target, and the interval timer restarts
(R91). -/
def execStepPulse (s : State) : Host.Outcome State Fault Refusal :=
  .next (
    match s.bd.move with
    | some m =>
      if s.pulsing then
        commit s { s with bd.c := stepToward m.target s.bd.c, bd.pulses := s.bd.pulses + 1, bd.pulse := some 0 }
      else s
    | none => s)

/-- LOADCLR_ASSERT: a CLOSED gate enters RE-CLEARING and its timer starts (R89). -/
def execLoadclrAssert (s : State) : Host.Outcome State Fault Refusal :=
  .next (
    let s1 : State := { s with pins.loadclr := true }
    if s.released ∧ s.bd.gate = .closed then
      { s1 with bd.gate := .reclearing, bd.reclear := .running Config.reclearMs }
    else s1)

/-- LOADCLR_DEASSERT: the gate is CLOSED, its timer stops, and a move under way becomes GATED (R89, R90). -/
def execLoadclrDeassert (s : State) : Host.Outcome State Fault Refusal :=
  .next (
    let s1 : State := { s with pins.loadclr := false }
    if s.released then commit s { s1 with bd.gate := .closed, bd.reclear := .stopped } else s1)

/-- RECLEAR_TIMER_EXPIRY: RE-CLEARING becomes OPEN (R89). The timer that has run out is stopped, as STATUS-READ then shows it: DESIGN
CHOICE (log 42). -/
def execReclearTimerExpiry (s : State) : Host.Outcome State Fault Refusal :=
  .next (
    if s.bd.gate = .reclearing ∧ s.bd.reclear.active then
      commit s { s with bd.gate := .opened, bd.reclear := .stopped }
    else s)

/-- MARK_CAPTURE: an edge of REFM; before READY it is not captured (R100). -/
def execMarkCapture (s : State) : Host.Outcome State Fault Refusal :=
  .next (
    let s1 : State := { s with pins.refm := !s.pins.refm }
    if s.released then captureMark s1 else s1)

/-- RS takes the abort order that BD's stop has overtaken, or leaves it once more to what reaches it next (R162, log 13). -/
def settleOrder (s : State) : State :=
  if s.rs.abortOrdered then giveAbortOrder s.orderMeets { s with rs.abortOrdered := false } else s

/-- An evaluation from READY onward: the four stages; a change of BOAT-ARRIVED makes RS evaluate completion (R88, R95). An order of
its own is settled here, one that has waited for the evaluation by `beforeOrder`. -/
def bdEvaluates (s : State) : State :=
  if s.released then
    let s1 := evaluationStages { s with bd.phase := .running Config.evaluationMs }
    let s2 := if s.boatArrived = s1.boatArrived then s1 else evaluate s1
    if s.rs.abortOrdered then s2 else settleOrder s2
  else s

/-- BD_EVALUATION (R95). -/
def execBdEvaluation (s : State) : Host.Outcome State Fault Refusal := .next (beforeOrder bdEvaluates s)

end Sys2Proof.Machine
end

