-- ==== Sys2Proof/Machine/Loader.lean ====
section
/-!
DEFINITION. Resets, the reading and validation of the image, and the release (chapter 11): the meanings of POWER_ON_RESET,
WARM_RESET, RESET_END and SERIAL_MEMORY_READ_END.
-/
namespace Sys2Proof.Machine

/-- Every block at the values a reset leaves (R27, R44, R68, R85, R105, R128, R145, R156, R181), the fault log apart; pins,
fuses, the waiting commands and the free choices are outside the part. -/
def enterReset (kind : ResetKind) (log : FaultLog) (s : State) : State :=
  { State.reset with
    cl := { Loader.reset with cfgsrc := s.cl.cfgsrc, addr := s.cl.addr }
    fl := log
    pins := s.pins
    fuses := s.fuses
    resetHeld := some kind
    pending := s.pending
    free := s.free }

/-- What CL does as one action at the end of a reset, going on to PORT-WAIT at once where CFGSRC selects the port (R182,
R183). -/
def endReset (cfgsrc : ConfigSource) (addr : BitVec 3) (s : State) : State :=
  { s with
    cl := {
      startup := match cfgsrc with
        | .memory => .loading
        | .port => .portWait
      staging := List.replicate 64 0
      image := none
      cfgsrc := cfgsrc
      addr := addr
      clamped := false }
    lp.gap := 0
    resetHeld := none }

/-! ### Release (R190) -/

/-- ZM at the release: unused zones become UNUSED, used ones start their hold timers in LOST-HOLD (R40, R44). -/
def releaseZM (s : State) : State :=
  { s with
    zm.zones := PerZone.build fun z =>
      if s.used z then { s.zoneM z with holdTimer := .running Config.holdMs }
      else { s.zoneM z with state := .unused }
    zm.phase := .running 0 }

/-- ZC at the release: the idle source, the windows in their stagger, the periods (R64, R68). -/
def releaseZC (s : State) : State :=
  let s1 := mapZoneC (fun z c => { c with
    window := match z with
      | .z1 => .running 0
      | _ => .waiting (z.index * Config.staggerMs) }) (takeIdleSource s)
  { s1 with zc.phase := .running 0 }

/-- GC at the release: the IDLE values, the three first records, the periods (R75, R85). -/
def releaseGC (s : State) : State :=
  let s1 := takeIdleFlows s
  { s1 with gc.queue := GasLine.all, gc.phase := .running 0 }

/-- BD at the release: the gate takes LOADCLR, and the first evaluation is 100 ms away (R89, R95). -/
def releaseBD (s : State) : State :=
  { s with
    bd.gate := if s.pins.loadclr then .reclearing else .closed
    bd.reclear := if s.pins.loadclr then .running Config.reclearMs else .stopped
    bd.phase := .running Config.evaluationMs }

/-- BL at the release enters JOINING with its listen and silence timers (R139). The idle count starts at 0 on a line taken as
recessive, where the manual is silent: DESIGN CHOICE (log 10). -/
def releaseBL (s : State) : State :=
  { s with
    bl.phase := .joining
    bl.listen := .running (2 * s.image.announcePeriod)
    bl.silence := .running (5 * s.image.announcePeriod)
    bl.line := .recessive 0 }

/-- A curtail source starts its debounce timer if its inputs differ from the debounced level (R147). -/
def releaseBU (s : State) : State :=
  if s.image.curtailSource ∧ s.inputLevel ≠ s.bu.debounced then { s with bu.debounce := .running Config.debounceMs }
  else s

/-- The release, as one action (R190). -/
def release (s : State) : State :=
  let s1 : State := { s with
    cl.image := some (applyImage s.cl.staging s.cl.addr s.fuses)
    cl.clamped := imageClamped s.cl.staging s.cl.addr s.fuses
    cl.startup := .joining }
  commit s (releaseBU (releaseBL (releaseBD (releaseGC (releaseZC (releaseZM (raiseEvent .ready s1)))))))

/-- CL validates the staging image: the release, or NOT-CONFIGURED with CONFIG-DEFAULT (R184). -/
def validateStaging (s : State) : State :=
  match imageFault s.cl.staging with
  | none => release s
  | some c => reportFault .configDefault .none (.check c) { s with cl.startup := .notConfigured }

/-! ### Meanings -/

/-- POWER_ON_RESET: every block, the fault log included, takes its power-on values (R182, R168). -/
def execPowerOnReset (s : State) : Host.Outcome State Fault Refusal :=
  .next (enterReset .powerOn FaultLog.reset s)

/-- WARM_RESET: every block takes its reset values, the fault log is kept; a part already in reset stays in it (R182, R168). -/
def execWarmReset (s : State) : Host.Outcome State Fault Refusal :=
  .next (if s.resetHeld.isSome then s else enterReset .warm s.fl s)

/-- RESET_END: straps sampled, staging zeroed, LOADING or PORT-WAIT (R182, R183). -/
def execResetEnd (cfgsrc : ConfigSource) (addr : BitVec 3) (s : State) : Host.Outcome State Fault Refusal :=
  .next (if s.resetHeld.isSome then endReset cfgsrc addr s else s)

/-- CL is reading the serial memory (R183). -/
def State.readingMemory (s : State) : Bool :=
  decide (s.cl.startup = .loading ∧ s.resetHeld = none ∧ s.cl.cfgsrc = .memory)

/-- SMCS is driven low while CL reads the serial memory, and released otherwise (R183). -/
def State.smcsLow (s : State) : Bool := s.readingMemory

/-- The bytes CL sends on SMDO: the read command and the address 0 (R183). -/
def memoryCommand : List Byte := [0x03, 0x00]

/-- The levels of SMDO in a read, one a clock of SMCK, most significant bit first (R183). -/
def memoryOut : List Bool := memoryCommand.flatMap bitsHigh

/-- The bytes that the levels sampled on SMDI give, eight to a byte, most significant bit first (R183). -/
def memoryIn (levels : List Bool) : List Byte := bytesHigh levels

/-- The clocks of a read: two bytes out and 64 in, 528 µs at 1 MHz (R183). -/
def memoryClocks : Nat := 8 * (memoryCommand.length + 64)

/-- CL drives SMCK while it reads the serial memory, and has released it otherwise: before a read, when it ends, and in a reset that
abandons it (R182, R183). -/
def State.smckDriven (s : State) : Bool := s.readingMemory

/-- The level that CL drives on SMCK this many half clocks, of 0.5 µs, after the start of the read: low, then high, in each of its 528
clocks. None where it has released the line: after the last clock, and with no read under way (R183). The manual gives the frequency
and what is done at each edge: that the low half comes first is DEDUCED, that both are as long a DESIGN CHOICE (log 43). -/
def State.smck (s : State) (half : Nat) : Option Bool :=
  if s.smckDriven && decide (half < 2 * memoryClocks) then some (decide (half % 2 = 1)) else none

/-- The half clock that begins with the rising edge of the `n`-th clock of a read, counted from 0 (R183, log 43). -/
def risingHalf (n : Nat) : Nat := 2 * n + 1

/-- The level that CL drives on SMDO this many half clocks after the start of the read: a bit of the command through each of the first
16 clocks, changed at the falling edge between them. None once they are sent, where the manual gives no level, and with no read under
way (R183, log 43). -/
def State.smdo (s : State) (half : Nat) : Option Bool := if s.readingMemory then memoryOut[half / 2]? else none

/-- The 64 bytes of a read from the levels of SMDI by half clocks: one bit at the rising edge of each clock after those of the command
(R183). -/
def memoryRead (smdi : Nat → Bool) : List Byte :=
  memoryIn ((List.range (8 * 64)).map fun i => smdi (risingHalf (memoryOut.length + i)))

/-- SERIAL_MEMORY_READ_END: the bytes stand in the staging image and CL validates it (R183, R184). -/
def execSerialMemoryReadEnd (bytes : List Byte) (s : State) : Host.Outcome State Fault Refusal :=
  .next (if s.readingMemory then
      validateStaging { s with cl.staging := (bytes ++ List.replicate 64 0).take 64 }
    else s)

end Sys2Proof.Machine
end

