-- ==== Sys2Proof/Machine/RunTimers.lean ====
section
/-!
DEFINITION. The meanings of the run's timers: DWELL_EXPIRY, STEP_TIMEOUT_EXPIRY, ABORT_TIMEOUT, RUN_CLOCK_TICK (R15, R22,
R24, R25). An expiry is met while its timer runs; otherwise there is nothing to run out (log 1).
-/
namespace Sys2Proof.Machine

/-- The dwell time of the current step where its dwell timer is counting toward it in RUNNING (R15). -/
def State.dwellPending (s : State) : Option Nat :=
  match s.rs.current with
  | some r =>
    if s.rs.run = .running ∧ r.conditions.dwell ∧ s.rs.dwell.phase = .counting ∧ ¬ s.rs.dwell.holds then some r.dwell
    else none
  | none => none

/-- The elapsed time stands at the dwell time, DWELL holds and RS evaluates completion (R14, R15). -/
def dwellExpires (s : State) : State :=
  match s.dwellPending with
  | some d => evaluate { s with rs.dwell := ⟨.counting, d * 1000, true⟩ }
  | none => s

/-- DWELL_EXPIRY (R15). -/
def execDwellExpiry (s : State) : Host.Outcome State Fault Refusal := .next (beforeOrder dwellExpires s)

/-- STEP_TIMEOUT_EXPIRY: the timer stays expired and RS reports STEP-TIMEOUT with the step's timeout as value (R22, R157). -/
def execStepTimeoutExpiry (s : State) : Host.Outcome State Fault Refusal :=
  .next (
    match s.rs.current with
    | some r =>
      if s.rs.run = .running ∧ s.rs.stepTimer.active then
        reportFault .stepTimeout .none (.number r.timeout) { s with rs.stepTimer := .expired }
      else s
    | none => s)

/-- ABORT_TIMEOUT: RS reports ABORT-INCOMPLETE while still ABORTING, with the accumulator as value, and enters IDLE (R24,
R157, R158). -/
def execAbortTimeout (s : State) : Host.Outcome State Fault Refusal :=
  .next (
    if s.rs.run = .aborting ∧ s.rs.abortTimer.active then
      enterIdle (reportFault .abortIncomplete .none (.number s.gc.acc) s)
    else s)

/-- RUN_CLOCK_TICK: outside IDLE the run clock advances by 1, saturating (R25). -/
def execRunClockTick (s : State) : Host.Outcome State Fault Refusal :=
  .next (
    if s.rs.run = .idle then s
    else { s with rs.clock := satSucc Config.count32 s.rs.clock, rs.clockPhase := .running 1000 })

end Sys2Proof.Machine
end

