-- ==== Sys2Proof/Machine/Clock.lean ====
section
/-!
DEFINITION. The part's own clock: what an idle step does (logs 2, 3, 20). Where the state says that events are due, one of
them becomes the waiting command; where none is, one millisecond passes for every timer, age and window.
-/
namespace Sys2Proof.Machine

/-! ### One millisecond (R15, R22, R25, R29, R64, R91, R106, R130, R170) -/

/-- A running timer loses one millisecond. -/
def Timer.tick : Timer → Timer
  | .running left => .running (left - 1)
  | .stopped => .stopped
  | .expired => .expired

/-- A running timer has no time left. -/
def Timer.due : Timer → Bool
  | .running left => decide (left = 0)
  | _ => false

/-- A channel's age and good-sample timer. -/
def tickChannel (c : Channel) : Channel := { c with age := c.age.map (· + 1), timer := c.timer.tick }

/-- What ZM holds of a zone. -/
def tickZone (m : ZoneMeasurement) : ZoneMeasurement :=
  { m with profile := tickChannel m.profile, spike := tickChannel m.spike, holdTimer := m.holdTimer.tick }

/-- A heater window. -/
def tickWindow : Window → Window
  | .off => .off
  | .waiting left => .waiting (left - 1)
  | .running t => .running (t + 1)

/-- A gas line's readback age and its timers. -/
def tickLine (c : LineControl) : LineControl :=
  { c with age := c.age.map (· + 1), timer := c.timer.tick, repeatTimer := c.repeatTimer.tick }

/-- A view entry's age, at most 10 announce periods (R106). -/
def tickEntry (p : Nat) (e : ViewEntry) : ViewEntry := { e with age := min (10 * p) (e.age + 1) }

/-- The idle count of the bank line. -/
def tickLineIdle : Line → Line
  | .recessive us => .recessive (us + 1000)
  | .stopped => .stopped
  | .idle => .idle
  | .busy => .busy

/-- RS's timers: the dwell and step-timeout timers are paused outside RUNNING (R15, R22). -/
def tickSequencer (counting : Bool) (r : Sequencer) : Sequencer :=
  { r with
    dwell := if counting then { r.dwell with elapsed := r.dwell.elapsed + 1 } else r.dwell
    stepTimer := if r.run = .running then r.stepTimer.tick else r.stepTimer
    abortTimer := r.abortTimer.tick
    clockPhase := r.clockPhase.tick }

/-- One millisecond passes for the whole part. -/
def advance (s : State) : State :=
  { s with
    rs := tickSequencer s.dwellPending.isSome s.rs
    zm := { s.zm with zones := PerZone.build fun z => tickZone (s.zoneM z), phase := s.zm.phase.tick }
    zc := { s.zc with
      zones := PerZone.build fun z => { s.zoneC z with window := tickWindow (s.zoneC z).window }
      phase := s.zc.phase.tick }
    gc := { s.gc with lines := PerLine.build fun l => tickLine (s.line l), phase := s.gc.phase.tick }
    bd := { s.bd with
      reclear := s.bd.reclear.tick, pulse := s.bd.pulse.map (· + 1000), phase := s.bd.phase.tick }
    bu := { s.bu with
      view := s.bu.view.map (tickEntry s.image.announcePeriod)
      debounce := s.bu.debounce.tick
      collection := s.bu.collection.map fun c => { c with timer := c.timer.tick } }
    bl := { s.bl with
      listen := s.bl.listen.tick
      silence := s.bl.silence.tick
      muteTimer := s.bl.muteTimer.tick
      announce := s.bl.announce.tick
      line := tickLineIdle s.bl.line }
    lp := { s.lp with
      gap := min (Config.gapMs + 1) (s.lp.gap + 1)
      replyTimer := s.lp.replyTimer.tick } }

/-! ### What is due -/

/-- A command where a condition holds. -/
def dueIf (b : Bool) (c : Instr) : List Instr := if b then [c] else []

/-- RS's events that are due. -/
def dueRun (s : State) : List Instr :=
  dueIf (s.dwellPending.any fun d => d * 1000 ≤ s.rs.dwell.elapsed) .dwellExpiry ++
  dueIf (s.rs.run = .running && s.rs.current.isSome && s.rs.stepTimer.due) .stepTimeoutExpiry ++
  dueIf (s.rs.run = .aborting && s.rs.abortTimer.due) .abortTimeout ++
  dueIf (s.rs.run ≠ .idle && s.rs.clockPhase.due) .runClockTick

/-- A heater window that starts now: its first start is here, or 1000 ms have passed since the last (R64). -/
def Window.due : Window → Bool
  | .off => false
  | .waiting left => decide (left = 0)
  | .running t => decide (Config.windowMs ≤ t)

/-- A zone's events that are due. -/
def dueZone (s : State) (z : Zone) : List Instr :=
  dueIf (s.zoneM z).profile.timer.due (.channelTimerExpiry z .profile) ++
  dueIf (s.zoneM z).spike.timer.due (.channelTimerExpiry z .spike) ++
  dueIf ((s.zoneM z).state = .lostHold && (s.zoneM z).holdTimer.due) (.holdTimerExpiry z) ++
  dueIf (s.zoneC z).window.due (.heaterWindowStart z)

/-- The 500 ms and 100 ms periods that are due. -/
def duePeriods (s : State) : List Instr :=
  dueIf s.zm.phase.due .zmPeriod ++ dueIf s.zc.phase.due .zcPeriod ++ dueIf s.gc.phase.due .gcPeriod ++
  dueIf s.bd.phase.due .bdEvaluation

/-- A gas line's events that are due. -/
def dueLine (s : State) (l : GasLine) : List Instr :=
  dueIf (s.line l).timer.due (.readbackTimerExpiry l) ++ dueIf (s.line l).repeatTimer.due (.repeatTimerExpiry l)

/-- BD's events that are due: the gate's timer, and a pulse whose interval has passed (R89, R91). -/
def dueBoat (s : State) : List Instr :=
  dueIf (s.bd.gate = .reclearing && s.bd.reclear.due) .reclearTimerExpiry ++
  dueIf (s.pulsing && s.bd.pulse.any fun t => s.pulseInterval.any (· ≤ t)) .stepPulse

/-- A view entry's change that is due (R109). -/
def dueEntry (p : Nat) (e : ViewEntry) : List Instr :=
  if 10 * p ≤ e.age then [.entryRemoved e.station]
  else dueIf (!e.stale && decide (3 * p ≤ e.age)) (.entryStale e.station)

/-- The link's and curtailment's events that are due (R130, R135, R136, R139 to R141, R147, R152). -/
def dueLink (s : State) : List Instr :=
  dueIf (match s.bl.line with
    | .recessive us => decide (Config.idleUs ≤ us) && s.bl.attempt.isNone
    | _ => false) .lineIdle ++
  dueIf s.mayAttempt .attemptStart ++
  dueIf s.bl.announce.due .announceTimerExpiry ++
  dueIf (s.bl.phase = .joining && s.bl.listen.due) .listenTimerExpiry ++
  dueIf (s.bl.phase = .on && s.bl.silence.due) .silenceTimerExpiry ++
  dueIf (s.bl.mute && s.bl.muteTimer.due) .muteTimerExpiry ++
  dueIf s.bu.debounce.due .debounceTimerExpiry ++
  dueIf (s.bu.collection.any (·.timer.due)) .ackTimerExpiry

/-- LP's events that are due (R170, R173). -/
def duePort (s : State) : List Instr :=
  dueIf (decide (Config.gapMs < s.lp.gap) && decide (s.lp.rx ≠ .hunting)) (.lpGapTimeout []) ++
  dueIf (s.lp.reply.isSome && s.lp.replyTimer.due) .replyEnd

/-- Every command that is due now; none while the part is in reset. -/
def due (s : State) : List Instr :=
  if s.resetHeld.isSome then []
  else
    dueRun s ++ Zone.all.flatMap (dueZone s) ++
    (if s.released then
      duePeriods s ++ GasLine.all.flatMap (dueLine s) ++ dueIf (!s.gc.queue.isEmpty) .setpointRecordSend ++
      dueBoat s ++ s.bu.view.flatMap (dueEntry s.image.announcePeriod) ++ dueLink s
    else []) ++ duePort s

/-! ### The idle step -/

/-- An idle step: with one command due it becomes the waiting one; with several, which comes first is a free choice (log 3);
with none, a millisecond passes, unless the part is in reset. -/
def idleStep (s : State) : State :=
  match due s with
  | [] => if s.resetHeld.isSome then s else advance s
  | [c] => { s with pending := [c] }
  | c :: cs =>
    { s with
      pending := [(c :: cs).getD (Config.raceOrder s.free % (cs.length + 1)) c]
      free := s.free + 1 }

end Sys2Proof.Machine
end

