-- ==== Sys2Proof/Machine/GasLines.lean ====
section
/-!
DEFINITION. Gas Control: the meanings of GC_PERIOD, READBACK_TIMER_EXPIRY, SETPOINT_RECORD_SEND, REPEAT_TIMER_EXPIRY,
SEAL_DEASSERT and SEAL_ASSERT (R71 to R82). A period works on the readings of its start, the state `s0` here (R77, log 23).
-/
namespace Sys2Proof.Machine

/-- Replace what GC holds of one line. -/
def setLine (l : GasLine) (c : LineControl) (s : State) : State := { s with gc.lines := s.gc.lines.set l c }

/-! ### Stages 1 and 2 (R78, R79, R82) -/

/-- What stage 1 adds to the accumulator: the last good value of a valid PURGE readback, and 0 otherwise (R78). -/
def State.purgeCount (s0 : State) : Nat :=
  if (s0.line .purge).valid then (s0.line .purge).lastGood.getD 0 else 0

/-- Stage 1: the accumulator grows, stopping at its top value (R78). -/
def accumulatePurge (s0 : State) : State :=
  { s0 with gc.acc := min Config.count32 (s0.gc.acc + s0.purgeCount) }

/-- Stage 2: a change of PURGE-DONE makes RS evaluate completion; then the abort purge is tested (R79, R82). -/
def purgeStages (s0 : State) : State :=
  let s1 := accumulatePurge s0
  testAbortPurge (if s0.purgeDone = s1.purgeDone then s1 else evaluate s1)

/-! ### Stage 3 (R80, R81) -/

/-- The deviation threshold of an applied flow (R80). -/
def deviationThreshold (applied tolerance : Nat) : Nat := max (applied * tolerance / 100) 5

/-- A line deviates by the readings of a period (R80). -/
def State.lineDeviates (s0 : State) (l : GasLine) : Bool :=
  let c := s0.line l
  !c.valid ||
    match c.lastGood with
    | some v =>
      decide (deviationThreshold (s0.appliedFlow l) s0.image.flowTolerance < ((v : Int) - s0.appliedFlow l).natAbs)
    | none => true

/-- The deviation timer of a line at a period (R80). -/
def deviationTimer (deviates : Bool) (t : Option Nat) : Option Nat :=
  if deviates then
    match t with
    | none => some 0
    | some e => some (min Config.deviationMs (e + Config.periodMs))
  else none

/-- The value of FLOW-DEVIATION: the last good value of a valid readback, absent otherwise (R81). -/
def readbackValue (c : LineControl) : FaultValue :=
  match c.valid, c.lastGood with
  | true, some v => .number v
  | _, _ => .absent

/-- Stage 3 for one line, on the state `s` that the earlier lines have left (log 39). FLOW-DEVIATION is a further fault to an abort order
that waits, so RS takes the order before it (R163). -/
def testLine (s0 s : State) (l : GasLine) : State :=
  let c := s.line l
  let t := deviationTimer (s0.lineDeviates l) c.devTimer
  let c1 : LineControl := { c with devTimer := t, deviates := s0.lineDeviates l }
  if t = some Config.deviationMs ∧ !c.latch then
    reportFault .flowDeviation (.line l) (readbackValue (s0.line l)) (takeWaitingOrder (setLine l { c1 with latch := true } s))
  else setLine l c1 s

/-! ### Stage 4 (R74) -/

/-- GC hands BU its purge floor and want, and BU follows at once (R74). -/
def handPurge (s : State) : State := commit s { s with bu.purge := s.purgeDemand }

/-! ### Meanings -/

/-- A period from READY onward: the four stages (R77). Lines that reach FLOW-DEVIATION in one period report it in the order PURGE,
CARRIER, OXIDANT, where R163 allows either: DESIGN CHOICE (log 39). -/
def gcPasses (s : State) : State :=
  if s.released then
    let s1 := handPurge (GasLine.all.foldl (testLine s) (purgeStages s))
    { s1 with gc.phase := .running Config.periodMs }
  else s

/-- GC_PERIOD (R77). -/
def execGcPeriod (s : State) : Host.Outcome State Fault Refusal := .next (beforeOrder gcPasses s)

/-- READBACK_TIMER_EXPIRY: a valid readback becomes invalid (R76). -/
def execReadbackTimerExpiry (l : GasLine) (s : State) : Host.Outcome State Fault Refusal :=
  .next (if (s.line l).valid then setLine l { s.line l with timer := .stopped } s else s)

/-- SETPOINT_RECORD_SEND: the head of the outbound queue is sent with its line's applied flow at this moment, and its repeat
timer restarts (R75). -/
def execSetpointRecordSend (s : State) : Host.Outcome State Fault Refusal :=
  .next (
    match s.gc.queue with
    | [] => s
    | l :: rest =>
      let s1 := setLine l { s.line l with repeatTimer := .running Config.repeatMs } s
      { s1 with gc.queue := rest, gc.sent := some ⟨l, s.appliedFlow l⟩ })

/-- The level of FLTX this many bit times after the start of the setpoint record whose sending began last: the record's bits, and
after them, or with no record sent, the idle level, PRESUMED 1 (R198, log 41). -/
def State.fltxLevel (s : State) (n : Nat) : Bool :=
  match s.gc.sent with
  | some r => r.fltx.getD n true
  | none => true

/-- REPEAT_TIMER_EXPIRY: the line joins the outbound queue (R75). -/
def execRepeatTimerExpiry (l : GasLine) (s : State) : Host.Outcome State Fault Refusal :=
  .next (
    if (s.line l).repeatTimer.active then
      let s1 := setLine l { s.line l with repeatTimer := .expired } s
      { s1 with gc.queue := joinQueue l s1.gc.queue }
    else s)

/-- SEAL-LOST is due at a deassertion in this state (R73). -/
def State.sealLossReported (s : State) : Bool :=
  s.released && decide (s.rs.run = .running ∨ s.rs.run = .starved) && decide (0 < (s.line .oxidant).commanded)

/-- SEAL_DEASSERT: the permit falls, and with OXIDANT commanded in RUNNING or STARVED GC raises SEAL-LOST (R72, R73). -/
def execSealDeassert (s : State) : Host.Outcome State Fault Refusal :=
  .next (
    if s.pins.sealed then
      let s1 := commit s { s with pins.sealed := false }
      if s.sealLossReported then
        reportFault .sealLost .none (.number (s.line .oxidant).commanded) s1
      else s1
    else s)

/-- SEAL_ASSERT: the permit may hold again (R72). -/
def execSealAssert (s : State) : Host.Outcome State Fault Refusal :=
  .next (commit s { s with pins.sealed := true })

end Sys2Proof.Machine
end

