-- ==== Sys2Proof/Machine/Heaters.lean ====
section
/-!
DEFINITION. Zone Control: the meanings of ZC_PERIOD, HEATER_WINDOW_START and HEATER_ON_TIME_END (R48 to R65).
-/
namespace Sys2Proof.Machine

/-! ### Stages 1 and 2: seeding and advance (R49 to R53) -/

/-- Stage 1 for one zone: an unseeded used zone with a measured value is seeded (R49). -/
def seedZone (s : State) (z : Zone) (c : ZoneControl) : ZoneControl :=
  match c.spi, (s.zoneM z).measured with
  | none, some m => if s.used z then { c with spi := some ((clampInt 0 s.image.zoneLimit m).toNat * 120) } else c
  | _, _ => c

/-- Some used zone is in LOST-HOLD (R52). -/
def State.anyLostHold (s : State) : Bool :=
  PerZone.any fun z => s.used z && decide ((s.zoneM z).state = .lostHold)

/-- R52's two reasons to freeze every setpoint. -/
def State.frozenBy52 (s : State) : Bool := decide (s.rs.run = .held) || s.anyLostHold

/-- A zone lags its moving setpoint by more than the band (R53). -/
def State.zoneLags (s : State) (band : Nat) (z : Zone) : Bool :=
  s.used z && (s.zoneM z).state.controlled &&
    match (s.zoneC z).setpoint, (s.zoneC z).target, (s.zoneM z).measured with
    | some sp, some target, some m => decide (sp ≠ target ∧ (band : Int) < (m - sp).natAbs)
    | _, _, _ => false

/-- The guaranteed-ramp test applies and finds a lagging zone (R53). -/
def State.rampLags (s : State) : Bool :=
  decide (s.rs.run = .running ∨ s.rs.run = .starved) &&
    match s.zc.band with
    | some b => decide (0 < b) && PerZone.any (s.zoneLags b)
    | none => false

/-- One advance of an internal setpoint toward its target by the rate (R51). -/
def advanceSetpoint (rate tti spi : Nat) : Nat :=
  if spi ≤ tti then if tti - spi ≤ rate then tti else spi + rate
  else if spi - tti ≤ rate then tti else spi - rate

/-- Stage 2 for one zone when nothing freezes it (R51). -/
def advanceZone (s : State) (z : Zone) (c : ZoneControl) : ZoneControl :=
  match c.spi, c.target, s.zc.rate with
  | some spi, some target, some rate =>
    if s.used z then { c with spi := some (advanceSetpoint rate (target * 120) spi) } else c
  | _, _, _ => c

/-! ### Stage 3: raw drive (R57 to R60) -/

/-- The error of a zone that forms one (R57). -/
def zoneError (sp : Nat) (m : Int) : Int := clampInt (-2000) 2000 (sp - m)

/-- The proportional term (R58). -/
def proportional (kp : Nat) (e : Int) : Int := (kp * e).tdiv 16

/-- R59's three conditions that withhold the addition to the accumulator. -/
def withheld (e : Int) (capSeen : Bool) (draw : Nat) : Bool :=
  decide (0 < e) && capSeen || decide (0 < e ∧ draw = 1000) || decide (e < 0 ∧ draw = 0)

/-- The accumulator after an addition (R58). -/
def accumulate (ki : Nat) (e : Int) (ia : Nat) : Nat := (clampInt 0 256000 (ia + ki * e)).toNat

/-- The raw drive from the two terms (R58). -/
def rawDrive (p : Int) (ia : Nat) : Nat := (clampInt 0 1000 (p + (ia / 256 : Nat))).toNat

/-- Stage 3 for a zone that forms an error (R57 to R59). -/
def controlZone (img : Image) (z : Zone) (capSeen : Bool) (e : Int) (c : ZoneControl) : ZoneControl :=
  let ia := if withheld e capSeen c.draw then c.ia else accumulate (img.ki.get z) e c.ia
  { c with ia := ia, draw := rawDrive (proportional (img.kp.get z) e) ia }

/-- Stage 3 for one zone (table of R60). -/
def driveZone (s : State) (z : Zone) (c : ZoneControl) : ZoneControl :=
  if !s.used z then { c with draw := 0 }
  else
    match c.setpoint, (s.zoneM z).state, (s.zoneM z).measured with
    | none, _, _ => { c with draw := 0 }
    | some sp, .normal, some m | some sp, .degraded, some m =>
      controlZone s.image z s.zc.capSeen (zoneError sp m) c
    | some _, .lostHold, _ => c
    | some _, _, _ => { c with draw := 0 }

/-! ### Stages 4 and 5: demand and settling (R54, R55, R61) -/

/-- A zone that counts in the floor: driven, or held in LOST-HOLD, and seeded (R61). -/
def State.countsInFloor (s : State) (z : Zone) : Bool :=
  s.used z && (s.zoneC z).spi.isSome &&
    match (s.zoneM z).state with
    | .normal | .degraded | .lostHold => true
    | _ => false

/-- The demand S in units of 0.1 W (R61). -/
def State.heaterDemand (s : State) : Nat :=
  PerZone.sum fun z => if s.used z then (s.zoneC z).draw * s.image.rating.get z else 0

/-- The want W_h (R61). -/
def State.heaterWant (s : State) : Nat := ceilDiv s.heaterDemand 1000

/-- The floor F_h (R61). -/
def State.heaterFloor (s : State) : Nat :=
  min s.heaterWant (ceilDiv (PerZone.sum fun z =>
    if s.countsInFloor z then (s.zoneC z).integral * s.image.rating.get z else 0) 1000)

/-- Stage 4 up to the hand-over to BU (R61). -/
def handDemand (s : State) : State :=
  { s with
    zc.demand := s.heaterDemand
    zc.want := s.heaterWant
    zc.floor := s.heaterFloor
    bu.heater := ⟨s.heaterFloor, s.heaterWant⟩ }

/-- The settle band: the band in force, or 20 when that is 0 (R54). -/
def State.settleBand (s : State) : Nat :=
  match s.zc.band with
  | some 0 | none => 20
  | some b => b

/-- One zone passes the settle test (R54). -/
def State.zoneSettled (s : State) (z : Zone) : Bool :=
  !s.used z ||
    ((s.zoneM z).state.controlled &&
      match (s.zoneC z).setpoint, (s.zoneC z).target, (s.zoneM z).measured with
      | some sp, some target, some m => decide (sp = target ∧ (m - sp).natAbs ≤ s.settleBand)
      | _, _, _ => false)

/-- The settle timer at a period (R55). -/
def settleTimer (passes : Bool) (limit : Nat) (t : Option Nat) : Option Nat :=
  if passes then
    match t with
    | none => some 0
    | some e => some (min (e + 500) limit)
  else none

/-- Stage 5 (R54, R55). -/
def settleStage (s : State) : State :=
  { s with zc.settle := settleTimer (PerZone.all s.zoneSettled) (s.image.settleTime * 1000) s.zc.settle }

/-! ### The period (R50) -/

/-- Stages 1 to 3: seeding, advance or freeze with the flags they set, raw drives. -/
def rampAndDrive (s : State) : State :=
  let s1 := mapZoneC (seedZone s) s
  let s2 := if s1.frozenBy52 || s1.rampLags then s1 else mapZoneC (advanceZone s1) s1
  mapZoneC (driveZone s2) { s2 with zc.rampWait := s1.rampLags, zc.frozen := s1.frozenBy52 }

/-- Stage 4: demand, floor and want to BU, which follows at once; then the cap-seen flag from the cap as it stands (R59,
R61). -/
def demandStage (s : State) : State :=
  let s1 := commit s (handDemand s)
  { s1 with zc.capSeen := s1.capActive }

/-- A ZC period up to the report of THERMAL-SETTLED (R50). -/
def zcStages (s : State) : State :=
  settleStage (demandStage (rampAndDrive { s with zc.phase := .running Config.periodMs }))

/-! ### Meanings -/

/-- A period from READY onward: the five stages; a change of THERMAL-SETTLED makes RS evaluate completion (R50, R56). -/
def zcPasses (s : State) : State :=
  if s.released then
    let s1 := zcStages s
    if s.thermalSettled = s1.thermalSettled then s1 else evaluate s1
  else s

/-- ZC_PERIOD (R50). -/
def execZcPeriod (s : State) : Host.Outcome State Fault Refusal := .next (beforeOrder zcPasses s)

/-- Replace a zone's heater window. -/
def setWindow (z : Zone) (w : Window) (s : State) : State :=
  { s with zc.zones := s.zc.zones.set z { s.zoneC z with window := w } }

/-- HEATER_WINDOW_START: the zone's window begins; the output is high while its time is below the applied drive (R64). -/
def execHeaterWindowStart (z : Zone) (s : State) : Host.Outcome State Fault Refusal :=
  .next (if s.released then setWindow z (.running 0) s else s)

/-- HEATER_ON_TIME_END: the time since the window started reaches the applied drive, and the output goes low (R64). -/
def execHeaterOnTimeEnd (z : Zone) (s : State) : Host.Outcome State Fault Refusal :=
  .next (
    match (s.zoneC z).window with
    | .running t => if t < s.appliedDrive z then setWindow z (.running (s.appliedDrive z)) s else s
    | _ => s)

end Sys2Proof.Machine
end

