-- ==== Sys2Proof/Machine/Reads.lean ====
section
/-!
DEFINITION. The bodies of the five read requests as bytes (R43, R67, R84, R104, R127, R144, R155, R167, R176, R177, R179,
R191, laid out by R197). Where R197 leaves an encoding open, the choice is marked in log 17.
-/
namespace Sys2Proof.Machine

/-! ### Field encodings (R197) -/

/-- A condition or flag: one byte, 1 where it holds or is set and 0 where not. R192 and R197 give presence bytes and enumerated values a
code, but flags none: DESIGN CHOICE (log 17). -/
def flagByte (b : Bool) : List Byte := [if b then 1 else 0]

/-- A field of `w` bytes that may be absent: a presence byte, then its bytes, 0 when absent. -/
def optBytes (w : Nat) (o : Option (List Byte)) : List Byte :=
  match o with
  | some bytes => 1 :: bytes
  | none => 0 :: List.replicate w 0

/-- An unsigned field that may be absent. -/
def optNat (w : Nat) (o : Option Nat) : List Byte := optBytes w (o.map (bytesOf w))

/-- A signed two-byte field that may be absent. -/
def optInt (o : Option Int) : List Byte := optBytes 2 (o.map (bytesOfInt 2))

/-- A reading of elapsed time in `w` bytes, all ones when stopped. -/
def elapsedBytes (w : Nat) (o : Option Nat) : List Byte :=
  match o with
  | some t => bytesOf w t
  | none => List.replicate w 0xFF

/-- The time left on a timer in two bytes: all ones when stopped (R197), and 0 when it has run out and stays expired (DEDUCED, log
42). -/
def leftBytes (t : Timer) : List Byte :=
  match t with
  | .stopped => elapsedBytes 2 none
  | .running left => elapsedBytes 2 (some left)
  | .expired => elapsedBytes 2 (some 0)

/-- An age: 65535 from 65535 ms on and while infinite (R29). -/
def ageBytes (o : Option Nat) : List Byte := bytesOf 2 (min 65535 (o.getD 65535))

/-! ### Codes (R192, R197) -/

/-- The start-up state (R192). -/
def Startup.code : Startup → Nat
  | .loading => 0 | .portWait => 1 | .notConfigured => 2 | .joining => 3 | .ready => 4
/-- The zone state (R192). -/
def ZoneState.code : ZoneState → Nat
  | .normal => 0 | .degraded => 1 | .lostHold => 2 | .lost => 3 | .overtemp => 4 | .unused => 5
/-- The link state (R192). -/
def LinkState.code : LinkState → Nat
  | .inactive => 0 | .joining => 1 | .normal => 2 | .isolated => 3 | .mute => 4 | .isolatedMute => 5
/-- The motion state (R192). -/
def Motion.code : Motion → Nat
  | .rest => 0 | .moving => 1 | .droopWait => 2 | .gated => 3 | .held => 4
/-- The gate state (R192). -/
def Gate.code : Gate → Nat
  | .closed => 0 | .reclearing => 1 | .opened => 2
/-- A sample status (R198). -/
def SampleStatus.code : SampleStatus → Nat
  | .ok => 0 | .opened => 1 | .range => 2
/-- The prior state, by the code of its run state. -/
def PriorState.code : PriorState → Nat
  | .running => 1 | .starved => 2
/-- A count direction, in the order IN, OUT. -/
def Direction.code : Direction → Nat
  | .inward => 0 | .outward => 1
/-- A mark action, in the order of R101's table. -/
def MarkAction.code : MarkAction → Nat
  | .rebase => 0 | .slip => 1
/-- A fault class (R197). -/
def FaultClass.code : FaultClass → Nat
  | .note => 0 | .hold => 1 | .abort => 2
/-- A failed check (R197). -/
def ImageCheck.code : ImageCheck → Nat
  | .signature => 0 | .sum => 1
/-- A gas line (R197). -/
def GasLine.code : GasLine → Nat
  | .purge => 0 | .carrier => 1 | .oxidant => 2
/-- A frame kind, in the order of R131's table. -/
def OwnFrame.index : OwnFrame → Nat
  | .curtail _ => 0 | .ack _ _ => 1 | .announce _ => 2
/-- A configuration source, in the order memory, port (R191). -/
def ConfigSource.code : ConfigSource → Nat
  | .memory => 0 | .port => 1

/-- A station set: bit n − 1 for station n (R192). -/
def stationMask (ns : List Nat) : Nat := (ns.map fun n => 2 ^ (n - 1)).sum

/-- The index of a member of a list of names. -/
def indexIn {α : Type} [DecidableEq α] (x : α) : List α → Nat
  | [] => 0
  | y :: ys => if x = y then 0 else indexIn x ys + 1

/-- The pending event set: bit n for the nth kind of R178's table (R197). -/
def eventMask (es : List EventKind) : Nat := (es.map fun k => 2 ^ indexIn k EventKind.all).sum

/-- The code of a fault kind, 1 to 14 (R197). -/
def FaultKind.code (k : FaultKind) : Nat := indexIn k FaultKind.all + 1

/-- The summary set: bit n for kind code n + 1 (R197). -/
def summaryMask (ks : List FaultKind) : Nat := (ks.map fun k => 2 ^ indexIn k FaultKind.all).sum

/-! ### STATUS-READ (R176) -/

/-- The start-up group (R191). -/
def statusStartup (s : State) : List Byte :=
  let img := s.cl.image
  bytesOf 1 s.cl.startup.code ++ bytesOf 1 (ConfigSource.code s.cl.cfgsrc) ++ optNat 1 (img.map (·.station)) ++
  flagByte (img.any (·.fromStraps)) ++ flagByte s.cl.clamped ++ bytesOf 2 s.fuses.ceiling.limit ++
  flagByte s.fuses.oxidant ++ optNat 2 (img.map (·.zoneLimit)) ++
  optBytes 1 (img.map fun i => flagByte i.oxidantDisabled)

/-- The run group (R9, R25, R26). -/
def statusRun (s : State) : List Byte :=
  bytesOf 1 s.rs.run.code ++ optNat 1 (s.rs.prior.map PriorState.code) ++ bytesOf 1 s.rs.queue.length ++
  optNat 2 (s.rs.current.map (·.label)) ++ optNat 2 s.rs.labelInForce ++ optNat 2 s.rs.lastLabel ++
  bytesOf 2 s.rs.done ++ bytesOf 1 s.rs.discarded ++ bytesOf 4 s.rs.clock

/-- The zones group (R43). -/
def statusZones (s : State) : List Byte :=
  bytesOf 2 s.zm.checkErrors ++ bytesOf 2 s.zm.ignored ++
  Zone.all.flatMap fun z => bytesOf 1 (s.zoneM z).state.code

/-- The heat group (R67). -/
def statusHeat (s : State) : List Byte :=
  optNat 1 s.zc.rate ++ optNat 2 s.zc.band ++ flagByte s.zc.rampWait ++ flagByte s.zc.frozen ++
  flagByte s.capActive ++ bytesOf 4 s.zc.demand ++ bytesOf 2 s.zc.want ++ bytesOf 2 s.zc.floor ++
  flagByte s.thermalSettled ++ elapsedBytes 4 s.zc.settle

/-- One line of the gas group (R84). -/
def statusLine (s : State) (l : GasLine) : List Byte :=
  let c := s.line l
  bytesOf 2 c.commanded ++ bytesOf 2 (s.appliedFlow l) ++ bytesOf 1 c.status.code ++ optNat 2 c.lastGood ++
  ageBytes c.age ++ flagByte c.deviates ++ elapsedBytes 2 c.devTimer ++ flagByte c.latch

/-- The gas group (R84). R84 says "for each line" without an order: PURGE, CARRIER, OXIDANT, and the permit's conditions in the order of
R72, are a DESIGN CHOICE (log 17). -/
def statusGas (s : State) : List Byte :=
  GasLine.all.flatMap (statusLine s) ++ bytesOf 4 s.gc.acc ++ optNat 1 s.gc.requirement ++
  optNat 4 (s.gc.requirement.map s.purgeUnits) ++ flagByte s.purgeDone ++ flagByte s.oxidantPermit ++
  flagByte s.capSealed ++ flagByte s.boatFullIn ++ flagByte s.oxidantEnabled ++
  bytesOf 2 s.purgeDemand.floor ++ bytesOf 2 s.purgeDemand.want

/-- A mark record. -/
def markBytes (m : Mark) : List Byte := bytesOf 2 m.position ++ bytesOf 1 m.direction.code

/-- The last-mark record. -/
def lastMarkBytes (m : LastMark) : List Byte :=
  bytesOf 2 m.position ++ bytesOf 1 m.direction.code ++ bytesOfInt 2 m.diff ++ bytesOf 1 m.action.code

/-- The boat group (R104). R104 names the time left on the re-clear timer while RE-CLEARING only; in the other gate states the field is
sent as of a stopped timer, with no presence byte: DESIGN CHOICE (log 42). -/
def statusBoat (s : State) : List Byte :=
  bytesOf 2 s.bd.e ++ bytesOf 2 s.bd.c ++ bytesOf 1 s.motion.code ++
  optBytes 6 (s.bd.move.map fun m => bytesOf 2 m.target ++ bytesOf 2 m.speed ++ bytesOf 2 m.droop) ++
  bytesOf 1 s.bd.factor.quarters ++ optNat 2 s.appliedSpeed ++ optInt s.bd.droop ++ bytesOf 1 s.bd.gate.code ++
  leftBytes s.bd.reclear ++ flagByte s.bd.referenced ++ s.bd.marks.flatMap markBytes ++
  optBytes 6 (s.bd.lastMark.map lastMarkBytes)

/-- The shares group (R127). -/
def statusShares (s : State) : List Byte :=
  bytesOf 2 s.bu.heldHeater ++ bytesOf 2 s.bu.heldPurge ++ bytesOf 1 s.rank ++
  bytesOf 1 (s.bu.view.filter (!·.stale)).length ++ bytesOf 1 (s.bu.view.filter (·.stale)).length

/-- An ack collection record. -/
def collectionBytes (c : Collection) : List Byte :=
  bytesOf 1 c.level.percent ++ bytesOf 1 (stationMask c.expected) ++ leftBytes c.timer

/-- The curtailment group (R155). Before READY no image is in force, and neither R155 nor R156 says what the curtail-source field reads
then: the model sends 0, and the fields that only a curtail source has as absent: DESIGN CHOICE (log 37). -/
def statusCurtailment (s : State) : List Byte :=
  bytesOf 1 s.bu.level.percent ++ flagByte s.image.curtailSource ++
  optBytes 4 (if s.image.curtailSource then
    some (bytesOf 1 s.inputLevel.percent ++ bytesOf 1 s.bu.debounced.percent ++ leftBytes s.bu.debounce) else none) ++
  optBytes 4 (s.bu.collection.map collectionBytes) ++ flagByte s.bu.frameHeard

/-- The link group (R144). The byte that says empty or pending of the CURTAIL and of the CURTAIL-ACK slot is also the presence byte of
its contents, and the byte that says whether an attempt is under way that of its kind; R144 and R197 do not say that one byte is both:
DESIGN CHOICE (log 17), and so is the order of the three slots, that of R134. R144 names the time left on the listen timer in JOINING and on the mute timer in MUTE only; outside those states
the two fields are sent as of a stopped timer, all ones with no presence byte: DESIGN CHOICE (log 42). -/
def statusLink (s : State) : List Byte :=
  bytesOf 1 s.linkState.code ++ leftBytes s.bl.listen ++ leftBytes s.bl.silence ++ leftBytes s.bl.muteTimer ++
  bytesOf 1 s.bl.abandons ++ bytesOf 2 s.bl.rxErrors ++ optNat 1 (s.bl.curtailSlot.map Level.percent) ++
  optBytes 2 (s.bl.ackSlot.map fun a => bytesOf 1 a.level.percent ++ bytesOf 1 a.origin) ++
  flagByte s.bl.announceSlot ++ optNat 1 (s.bl.attempt.map fun a => a.frame.index)

/-- The faults group (R164). -/
def statusFaults (s : State) : List Byte := flagByte s.fl.pending ++ bytesOf 1 s.fl.count

/-- The port group (R176). -/
def statusPort (s : State) : List Byte :=
  bytesOf 2 s.lp.lineErrors ++ bytesOf 2 s.lp.overruns ++ bytesOf 2 (eventMask s.lp.events)

/-- The STATUS-READ body: the groups in the order of R176's table. -/
def statusBody (s : State) : List Byte :=
  statusStartup s ++ statusRun s ++ statusZones s ++ statusHeat s ++ statusGas s ++ statusBoat s ++
  statusShares s ++ statusCurtailment s ++ statusLink s ++ statusFaults s ++ statusPort s

/-! ### ZONE-READ, VIEW-READ, EVENT-READ, FAULT-READ -/

/-- One channel of a zone (R43). -/
def channelBytes (c : Channel) : List Byte := bytesOf 1 c.status.code ++ optInt c.lastGood ++ ageBytes c.age

/-- One zone of ZONE-READ: ZM's fields of R43, then ZC's of R67. Of its two channels PROFILE comes first: DESIGN CHOICE (log 17). -/
def zoneBody (s : State) (z : Zone) : List Byte :=
  let m := s.zoneM z
  let c := s.zoneC z
  bytesOf 1 m.state.code ++ optInt m.measured ++ bytesOfInt 2 m.offset ++ optInt m.lastMeasured ++
  channelBytes m.profile ++ channelBytes m.spike ++ optNat 2 c.target ++
  optNat 2 (if s.used z then c.setpoint else none) ++ bytesOf 2 c.integral ++ bytesOf 2 c.draw ++
  bytesOf 2 (s.appliedDrive z)

/-- The ZONE-READ body, zone Z1 first (R177). -/
def zonesBody (s : State) : List Byte := Zone.all.flatMap (zoneBody s)

/-- One view entry (R106, R127). -/
def entryBytes (e : ViewEntry) : List Byte :=
  bytesOf 1 e.station ++ bytesOf 2 e.heater.floor ++ bytesOf 2 e.heater.want ++ bytesOf 2 e.heater.held ++
  bytesOf 2 e.purge.floor ++ bytesOf 2 e.purge.want ++ bytesOf 2 e.purge.held ++ bytesOf 1 e.rank ++
  bytesOf 1 e.summary.code ++ bytesOf 1 e.level.percent ++ bytesOf 2 e.age ++ flagByte e.stale

/-- The own side of one supply (R127); the code of the deciding step of R115 is a DESIGN CHOICE (log 17). -/
def supplyBytes (s : State) (p : Supply) : List Byte :=
  bytesOf 2 (s.ownDemand p).floor ++ bytesOf 2 (s.ownDemand p).want ++ bytesOf 2 (s.beff p) ++
  bytesOf 2 (s.computedGrant p) ++ bytesOf 2 (s.heldGrant p) ++ flagByte s.bl.isolated ++
  optNat 2 (if s.bl.isolated then none else some (floorSum (s.ownCounted p) (s.peersCounted p))) ++
  optNat 1 (if s.bl.isolated then none else some (grantStep (s.beff p) (s.ownCounted p) (s.peersCounted p)))

/-- The VIEW-READ body (R127, R177). Of the two supplies the heater comes first: DESIGN CHOICE (log 17). -/
def viewBody (s : State) : List Byte :=
  s.bu.view.flatMap entryBytes ++ supplyBytes s .heater ++ supplyBytes s .purge ++ bytesOf 1 s.rank ++
  bytesOf 1 s.bu.level.percent ++ bytesOf 2 s.bu.contentErrors ++ flagByte s.bl.announceSlot

/-- The EVENT-READ body: the set, then the context (R179). -/
def eventBody (s : State) : List Byte :=
  bytesOf 2 (eventMask s.lp.events) ++ optNat 2 (s.rs.current.map (·.label)) ++ optNat 2 s.rs.lastLabel ++
  bytesOf 2 s.rs.done ++ bytesOf 1 s.rs.discarded ++ bytesOf 1 s.linkState.code ++ bytesOf 1 s.bu.level.percent

/-- The two subject bytes of a fault record (R197). A line, a station and a station set stand in the first: DESIGN CHOICE (log 17). -/
def subjectBytes : FaultSubject → List Byte
  | .none => [0, 0]
  | .zone z => bytesOf 1 (z.index + 1) ++ [0]
  | .channel z k => bytesOf 1 (z.index + 1) ++ [match k with | .profile => 0 | .spike => 1]
  | .line l => bytesOf 1 (GasLine.code l) ++ [0]
  | .station n => bytesOf 1 n ++ [0]
  | .stations ns => bytesOf 1 (stationMask ns) ++ [0]

/-- The value of a fault record with its presence byte (R197). R192 makes a station set one byte and R197 gives the value four, without
saying where in them the set of CURTAIL-UNCONFIRMED, or the code of a failed check, stands: the model sends either as a number, in the
last and lowest byte behind three zeros: DESIGN CHOICE (log 17). -/
def valueBytes : FaultValue → List Byte
  | .absent => optBytes 4 none
  | .number v => optBytes 4 (some (bytesOfInt 4 v))
  | .stations ns => optBytes 4 (some (bytesOf 4 (stationMask ns)))
  | .check c => optBytes 4 (some (bytesOf 4 c.code))

/-- The 17 bytes of a fault record, zeros for an empty one (R197). -/
def recordBytes (o : Option FaultRecord) : List Byte :=
  match o with
  | none => List.replicate 17 0
  | some r =>
    bytesOf 1 r.kind.code ++ bytesOf 1 r.cls.code ++ subjectBytes r.subject ++ optNat 2 r.label ++
    optNat 4 r.runTime ++ valueBytes r.value

/-- The FAULT-READ body (R167, R197). -/
def faultBody (s : State) : List Byte :=
  recordBytes s.fl.first ++ recordBytes s.fl.next ++ bytesOf 2 (summaryMask s.fl.summary) ++
  bytesOf 1 s.fl.count ++ flagByte s.fl.pending

end Sys2Proof.Machine
end

