-- ==== Sys2Proof/Machine/Requests.lean ====
section
/-!
DEFINITION. The decisions of the owners of the requests: what each does at the moment of service and the code it answers
with (table of R175).
-/
namespace Sys2Proof.Machine

/-- What an owner answers: the state after its effects, the reply code, and the body of a read. -/
structure Served where
  state : State
  code : ReplyCode
  body : List Byte
deriving DecidableEq, Repr

/-- An answer without a body. -/
def answer (code : ReplyCode) (s : State) : Served := ⟨s, code, []⟩

/-- A request carried out, with or without a clamp. -/
def accepted (clamped : Bool) (s : State) : Served := answer (if clamped then .okClamped else .ok) s

/-! ### Step records (R2 to R8) -/

/-- A zone target before its clamp: the centre target plus the clamped offset (R2). -/
def rawTarget (raw : RawThermal) (z : Zone) : Int := raw.centre + clampInt (-500) 500 (raw.offsets.get z)

/-- The stored form of a thermal part (R2). -/
def storeThermal (img : Image) (raw : RawThermal) : ThermalPart where
  targets := PerZone.build fun z => (clampInt 0 img.zoneLimit (rawTarget raw z)).toNat
  rate := clampNat 1 250 raw.rate
  band := min raw.band 500

/-- A clamp of a thermal part that counts toward OK-CLAMPED: rate, band, and offset or target of a used zone (R2, log 19). -/
def thermalClamped (img : Image) (raw : RawThermal) : Bool :=
  decide (clampNat 1 250 raw.rate ≠ raw.rate) || decide (500 < raw.band) ||
  PerZone.any fun z => img.used.get z &&
    (decide (clampInt (-500) 500 (raw.offsets.get z) ≠ raw.offsets.get z) ||
      decide (clampInt 0 img.zoneLimit (rawTarget raw z) ≠ rawTarget raw z))

/-- The stored form of a gas part (R3). -/
def storeGas (p : GasPart) : GasPart :=
  ⟨⟨min p.flows.purge 300, min p.flows.carrier 200, min p.flows.oxidant 150⟩, min p.requirement 200⟩

/-- The stored form of a boat part (R4). -/
def storeBoat (img : Image) (p : BoatPart) : BoatPart :=
  ⟨min p.target img.pIn, clampNat 10 600 p.speed, min p.droop 1000⟩

/-- A record as RS keeps it, after the clamps of R2 to R4. -/
def storeStep (img : Image) (raw : RawStep) : StepRecord where
  label := raw.label
  thermal := raw.thermal.map (storeThermal img)
  gas := raw.gas.map storeGas
  boat := raw.boat.map (storeBoat img)
  conditions := raw.conditions
  dwell := raw.dwell
  timeout := raw.timeout
  last := raw.last

/-- Whether a clamp of R2 to R4 makes the append OK-CLAMPED. -/
def stepClamped (img : Image) (raw : RawStep) : Bool :=
  raw.thermal.any (thermalClamped img) || raw.gas.any (fun p => decide (storeGas p ≠ p)) ||
  raw.boat.any (fun p => decide (storeBoat img p ≠ p))

/-- An accepted record joins the queue; in STARVED it becomes current at once (R8). -/
def appendRecord (r : StepRecord) (s : State) : State :=
  let s1 : State := { s with rs.queue := s.rs.queue ++ [r] }
  if s.rs.run = .starved then startHead s1 else s1

/-- STEP-APPEND: the checks of R7 in their order. -/
def serveStepAppend (body : List Byte) (s : State) : Served :=
  if s.rs.run = .aborting then answer .state s
  else
    match readStep body with
    | none => answer .badFormat s
    | some raw =>
      if raw.conditions.purgeDone && raw.gas.isNone then answer .badFormat s
      else if Config.queueCapacity ≤ s.rs.queue.length then answer .queueFull s
      else accepted (stepClamped s.image raw) (appendRecord (storeStep s.image raw) s)

/-- QUEUE-CLEAR (R10). -/
def serveQueueClear (s : State) : Served :=
  match s.rs.run with
  | .idle | .held => answer .ok { s with rs.queue := [] }
  | .running | .starved | .aborting => answer .state s

/-! ### The run (R11, R19, R21, R23) -/

/-- RUN-START: IDLE, then FAULT-PENDING, then an empty queue (R11). -/
def serveRunStart (s : State) : Served :=
  if s.rs.run ≠ .idle then answer .state s
  else if s.fl.pending then answer .faultPending s
  else if s.rs.queue.isEmpty then answer .empty s
  else
    answer .ok (startHead { s with
      rs.clock := 0
      rs.clockPhase := .running 1000
      rs.done := 0
      rs.discarded := 0
      rs.lastLabel := none
      rs.thermal := none
      rs.gas := none })

/-- RUN-HOLD (R19). -/
def serveRunHold (s : State) : Served :=
  match s.rs.run with
  | .running | .starved => answer .ok (enterHeld s)
  | .held => answer .ok s
  | .idle | .aborting => answer .state s

/-- RS leaves HELD for a run state; BD clears the droop-wait flag and takes speed factor 4/4 (R21, R98). -/
def leaveHeld (run : RunState) (s : State) : State :=
  commit s { s with rs.run := run, rs.prior := none, bd.droopWait := false, bd.factor := .full }

/-- The step timeout timer at a resume: the current step's full timeout (R21, R22). -/
def restartTimeout (s : State) : State :=
  match s.rs.current with
  | some r => { s with rs.stepTimer := timeoutTimer r }
  | none => s

/-- RUN-RESUME (R21). -/
def serveRunResume (s : State) : Served :=
  match s.rs.run, s.rs.prior with
  | .held, some .starved =>
    if s.rs.queue.isEmpty then answer .ok (leaveHeld .starved s)
    else answer .ok (startHead (leaveHeld .running s))
  | .held, _ => answer .ok (evaluate (restartTimeout (leaveHeld .running s)))
  | _, _ => answer .state s

/-- RUN-ABORT (R23). -/
def serveRunAbort (s : State) : Served :=
  match s.rs.run with
  | .running | .starved | .held => answer .ok (enterAborting s)
  | .idle | .aborting => answer .state s

/-- BOAT-MOVE (R102). -/
def serveBoatMove (body : List Byte) (s : State) : Served :=
  if s.rs.run ≠ .idle then answer .state s
  else
    let m := storeBoat s.image ⟨at2 body 0, at2 body 2, 0⟩
    accepted (decide (m ≠ ⟨at2 body 0, at2 body 2, 0⟩)) (commit s (takeTarget m s))

/-! ### Fault log (R39, R165 to R167) -/

/-- The state a zone released from OVERTEMP returns to, by its channels (R39). -/
def releaseOvertemp (m : ZoneMeasurement) : ZoneMeasurement :=
  if m.state ≠ .overtemp then m
  else if m.profile.valid then { m with state := .normal }
  else if m.spike.valid then { m with state := .degraded }
  else { m with state := .lostHold, lastMeasured := m.measured, holdTimer := .running Config.holdMs }

/-- FAULT-CLEAR (R165, R166). -/
def serveFaultClear (s : State) : Served :=
  if s.rs.run = .aborting then answer .state s
  else
    answer .ok { s with
      fl := FaultLog.reset
      zm.zones := PerZone.build fun z => releaseOvertemp (s.zoneM z) }

/-! ### Configuration (R185, R186) -/

/-- CL takes configuration over the port in PORT-WAIT and NOT-CONFIGURED. -/
def State.configurable (s : State) : Bool :=
  decide (s.cl.startup = .portWait ∨ s.cl.startup = .notConfigured)

/-- Write bytes into the staging image from an offset onward. -/
def writeStaging (offset : Nat) (data staging : List Byte) : List Byte :=
  staging.take offset ++ data ++ staging.drop (offset + data.length)

/-- CONFIG-WRITE (R185). -/
def serveConfigWrite (body : List Byte) (s : State) : Served :=
  if !s.configurable then answer .state s
  else if body.length < 2 ∨ 64 < at1 body 0 + body.tail.length then answer .badFormat s
  else answer .ok { s with cl.staging := writeStaging (at1 body 0) body.tail s.cl.staging }

/-- CONFIG-DONE (R186). -/
def serveConfigDone (s : State) : Served :=
  if !s.configurable then answer .state s
  else
    match imageFault s.cl.staging with
    | none => accepted (validateStaging s).cl.clamped (validateStaging s)
    | some _ => answer .badFormat (validateStaging s)

/-! ### Reads (R176, R177, R179) -/

/-- A read answered OK with its body. -/
def read (body : State → List Byte) (s : State) : Served := ⟨s, .ok, body s⟩

/-- EVENT-READ returns the set with its context and removes what it returned (R179). -/
def serveEventRead (s : State) : Served := ⟨{ s with lp.events := [] }, .ok, eventBody s⟩

/-! ### The table of R175 -/

/-- The requests. -/
inductive Request where
  | statusRead | zoneRead | viewRead | eventRead | faultRead | faultClear | stepAppend | queueClear
  | runStart | runHold | runResume | runAbort | boatMove | configWrite | configDone
deriving DecidableEq, Repr

/-- The kind byte of a request (R194). -/
def Request.kind : Request → Byte
  | .statusRead => 0x01 | .zoneRead => 0x02 | .viewRead => 0x03 | .eventRead => 0x04 | .faultRead => 0x05
  | .faultClear => 0x10 | .stepAppend => 0x20 | .queueClear => 0x21 | .runStart => 0x22 | .runHold => 0x23
  | .runResume => 0x24 | .runAbort => 0x25 | .boatMove => 0x30 | .configWrite => 0x40 | .configDone => 0x41

/-- The requests in the order of the table. -/
def Request.all : List Request :=
  [.statusRead, .zoneRead, .viewRead, .eventRead, .faultRead, .faultClear, .stepAppend, .queueClear,
   .runStart, .runHold, .runResume, .runAbort, .boatMove, .configWrite, .configDone]

/-- The request a kind byte names, if it names one. -/
def readRequest (kind : Byte) : Option Request := Request.all.find? fun r => r.kind = kind

/-- Served before READY (R175). -/
def Request.early : Request → Bool
  | .statusRead | .eventRead | .faultRead | .configWrite | .configDone => true
  | _ => false

/-- The body length of a request of fixed length (R175, R194). -/
def Request.fixedLength : Request → Option Nat
  | .stepAppend | .configWrite => none
  | .boatMove => some 4
  | _ => some 0

/-- The owner of a request takes it (R175). -/
def serveOwner (r : Request) (body : List Byte) (s : State) : Served :=
  match r with
  | .statusRead => read statusBody s
  | .zoneRead => read zonesBody s
  | .viewRead => read viewBody s
  | .eventRead => serveEventRead s
  | .faultRead => read faultBody s
  | .faultClear => serveFaultClear s
  | .stepAppend => serveStepAppend body s
  | .queueClear => serveQueueClear s
  | .runStart => serveRunStart s
  | .runHold => serveRunHold s
  | .runResume => serveRunResume s
  | .runAbort => serveRunAbort s
  | .boatMove => serveBoatMove body s
  | .configWrite => serveConfigWrite body s
  | .configDone => serveConfigDone s

/-- LP checks a request entry in the order of R175 and passes it to its owner. -/
def serveRequest (kind : Byte) (body : List Byte) (s : State) : Served :=
  match readRequest kind with
  | none => answer .badFormat s
  | some r =>
    if !s.released && !r.early then answer .notConfigured s
    else if r.fixedLength.any (· ≠ body.length) then answer .badFormat s
    else serveOwner r body s

end Sys2Proof.Machine
end

