-- ==== Sys2Proof/Machine/PortLine.lean ====
section
/-!
DEFINITION. The local port: entries, the input slot, replies (R170 to R174), and the meanings of the requests and of the
port's own events. A request command is one whole request frame with a good sum arriving on LPRX.
-/
namespace Sys2Proof.Machine

/-! ### Service and slot (R173, R174) -/

/-- The time a reply takes on LPTX, in ms rounded up: 11 bit times a byte at 115,200 bit/s (R169, log 29). -/
def replyMs (r : Reply) : Nat := ceilDiv (r.bytes.length * 11000) 115200

/-- The level of LPTX this many bit times after the start of the reply in progress: the reply's bits, and the idle level 1
after them or with no reply (R169). -/
def State.lptxLevel (s : State) (n : Nat) : Bool :=
  match s.lp.reply with
  | some r => r.lptx.getD n true
  | none => true

/-- A reply becomes the reply in progress (R173). -/
def sendReply (r : Reply) (s : State) : State :=
  { s with lp.reply := some r, lp.replyTimer := .running (replyMs r) }

/-- LP serves an entry (R174). -/
def serveEntry (e : LpEntry) (s : State) : State :=
  match e with
  | .reject => sendReply ⟨0x00, .reject, [0x01]⟩ s
  | .badCheck kind => sendReply ⟨kind, .badCheck, []⟩ s
  | .request kind body =>
    let a := serveRequest kind body s
    sendReply ⟨kind, a.code, a.body⟩ a.state

/-- An entry is offered to the input slot (table of R173). -/
def offerEntry (e : LpEntry) (s : State) : State :=
  match s.lp.reply, s.lp.slot with
  | none, _ => serveEntry e s
  | some _, none => { s with lp.slot := some e }
  | some _, some _ => { s with lp.overruns := satSucc Config.count16 s.lp.overruns }

/-- An entry is formed: a REJECT counts its line error first (R171, R172). -/
def formEntry (s : State) (e : LpEntry) : State :=
  match e with
  | .reject => offerEntry e { s with lp.lineErrors := satSucc Config.count16 s.lp.lineErrors }
  | _ => offerEntry e s

/-- Characters arrive on LPRX; each restarts the gap timer (R170). -/
def receiveChars (chars : List LpChar) (s : State) : State :=
  let out := lpFeed s.lp.rx chars
  out.2.foldl formEntry
    { s with lp.rx := out.1, lp.gap := if chars.isEmpty then s.lp.gap else 0 }

/-- A whole request frame with a good sum arrives. -/
def receiveRequest (r : Request) (body : List Byte) (s : State) : State := receiveChars (requestChars r.kind body) s

/-- The gap timer passes 20 ms: IN-FRAME ends with a line error, SKIPPING returns to HUNTING (R170, R171). -/
def passGap (s : State) : State :=
  match s.lp.rx with
  | .hunting => s
  | .skipping => { s with lp.rx := .hunting }
  | .inFrame _ => formEntry { s with lp.rx := .hunting } .reject

/-! ### Meanings of the requests -/

/-- CONFIG-WRITE (R185). -/
def execConfigWrite (body : List Byte) (s : State) : Host.Outcome State Fault Refusal :=
  .next (receiveRequest .configWrite body s)
/-- CONFIG-DONE (R186). -/
def execConfigDone (body : List Byte) (s : State) : Host.Outcome State Fault Refusal :=
  .next (receiveRequest .configDone body s)
/-- STATUS-READ (R176). -/
def execStatusRead (body : List Byte) (s : State) : Host.Outcome State Fault Refusal :=
  .next (receiveRequest .statusRead body s)
/-- ZONE-READ (R177). -/
def execZoneRead (body : List Byte) (s : State) : Host.Outcome State Fault Refusal :=
  .next (receiveRequest .zoneRead body s)
/-- VIEW-READ (R177). -/
def execViewRead (body : List Byte) (s : State) : Host.Outcome State Fault Refusal :=
  .next (receiveRequest .viewRead body s)
/-- EVENT-READ (R179). -/
def execEventRead (body : List Byte) (s : State) : Host.Outcome State Fault Refusal :=
  .next (receiveRequest .eventRead body s)
/-- FAULT-READ (R167). -/
def execFaultRead (body : List Byte) (s : State) : Host.Outcome State Fault Refusal :=
  .next (receiveRequest .faultRead body s)
/-- FAULT-CLEAR; an abort order that it overtook is taken after it (R165, R166, log 35). -/
def execFaultClear (body : List Byte) (s : State) : Host.Outcome State Fault Refusal :=
  .next (beforeOrder (receiveRequest .faultClear body) s)
/-- STEP-APPEND (R7, R8). -/
def execStepAppend (body : List Byte) (s : State) : Host.Outcome State Fault Refusal :=
  .next (receiveRequest .stepAppend body s)
/-- QUEUE-CLEAR (R10). -/
def execQueueClear (body : List Byte) (s : State) : Host.Outcome State Fault Refusal :=
  .next (receiveRequest .queueClear body s)
/-- RUN-START (R11). -/
def execRunStart (body : List Byte) (s : State) : Host.Outcome State Fault Refusal :=
  .next (receiveRequest .runStart body s)
/-- RUN-HOLD (R19). -/
def execRunHold (body : List Byte) (s : State) : Host.Outcome State Fault Refusal :=
  .next (receiveRequest .runHold body s)
/-- RUN-RESUME, which may complete the held step; an abort order that it overtook is taken after it (R21, R162, log 35). -/
def execRunResume (body : List Byte) (s : State) : Host.Outcome State Fault Refusal :=
  .next (beforeOrder (receiveRequest .runResume body) s)
/-- RUN-ABORT (R23). -/
def execRunAbort (body : List Byte) (s : State) : Host.Outcome State Fault Refusal :=
  .next (receiveRequest .runAbort body s)
/-- BOAT-MOVE (R102). -/
def execBoatMove (body : List Byte) (s : State) : Host.Outcome State Fault Refusal :=
  .next (receiveRequest .boatMove body s)

/-! ### Meanings of the port's own events -/

/-- UNKNOWN_KIND_REQUEST: a frame with a good sum whose kind names no request (R175). -/
def execUnknownKindRequest (kind : Byte) (body : List Byte) (s : State) : Host.Outcome State Fault Refusal :=
  .next (receiveChars (requestChars kind body) s)

/-- LINE_ERROR: characters of which the last ends a frame with a line error (R171). -/
def execLineError (chars : List LpChar) (s : State) : Host.Outcome State Fault Refusal :=
  .next (receiveChars chars s)

/-- LP_GAP_TIMEOUT: characters, then a gap of more than 20 ms; during a reset the gap timer does not run (R170, R181). -/
def execLpGapTimeout (chars : List LpChar) (s : State) : Host.Outcome State Fault Refusal :=
  .next (if s.resetHeld.isSome then s else passGap (receiveChars chars s))

/-- BAD_CHECK_FRAME: a complete frame whose sum fails (R172). -/
def execBadCheckFrame (kind : Byte) (body : List Byte) (check : Byte) (s : State) : Host.Outcome State Fault Refusal :=
  .next (receiveChars (frameChars kind body check) s)

/-- The reply in progress ends and the waiting entry, if there is one, is served (R173). -/
def endReply (s : State) : State :=
  if s.lp.reply.isNone then s
  else
    match s.lp.slot with
    | none => { s with lp.reply := none, lp.replyTimer := .stopped }
    | some e => serveEntry e { s with lp.reply := none, lp.replyTimer := .stopped, lp.slot := none }

/-- REPLY_END; an abort order that it overtook is taken after the request it serves (R166, R173, log 35). -/
def execReplyEnd (s : State) : Host.Outcome State Fault Refusal := .next (beforeOrder endReply s)

end Sys2Proof.Machine
end

