-- ==== Sys2Proof/Machine/Zones.lean ====
section
/-!
DEFINITION. Zone Measurement and the field link's inbound side: the meanings of SAMPLE_RECORD, CHANNEL_TIMER_EXPIRY,
HOLD_TIMER_EXPIRY and ZM_PERIOD (R28 to R42, R76, R199).
-/
namespace Sys2Proof.Machine

/-! ### Zone states (R31 to R38) -/

/-- Replace what ZM holds of one zone. -/
def setZone (z : Zone) (m : ZoneMeasurement) (s : State) : State := { s with zm.zones := s.zm.zones.set z m }

/-- A zone takes a state; at a departure from NORMAL or DEGRADED its last measured value is M as it stood (R31, log 11). -/
def enterZoneState (st : ZoneState) (m : ZoneMeasurement) : ZoneMeasurement :=
  { m with
    state := st
    lastMeasured := if m.state.controlled ∧ st ≠ m.state then m.measured else m.lastMeasured }

/-- The value of a fault from a value that may be absent (R157). -/
def faultValue (v : Option Int) : FaultValue :=
  match v with
  | some x => .number x
  | none => .absent

/-- A channel of a used zone has become invalid (R32 to R34); `m` holds the channel already invalid. -/
def channelLost (z : Zone) (k : ChannelKind) (m : ZoneMeasurement) (s : State) : State :=
  if m.state.controlled then
    if !m.profile.valid && !m.spike.valid then
      setZone z { enterZoneState .lostHold m with holdTimer := .running Config.holdMs } s
    else
      match m.state, k with
      | .normal, .profile =>
        reportFault .channelFailed (.channel z .profile) (faultValue m.profile.lastGood)
          (setZone z (enterZoneState .degraded m) s)
      | .normal, .spike =>
        reportFault .channelFailed (.channel z .spike) (faultValue m.spike.lastGood) (setZone z m s)
      | _, _ => setZone z m s
  else setZone z m s

/-- A channel of a used zone has become valid (R32, R36). -/
def channelRecovered (k : ChannelKind) (m : ZoneMeasurement) : ZoneMeasurement :=
  match m.state, k with
  | .degraded, .profile => enterZoneState .normal m
  | .lostHold, .profile | .lost, .profile => { m with state := .normal, holdTimer := .stopped }
  | .lostHold, .spike | .lost, .spike => { m with state := .degraded, holdTimer := .stopped }
  | _, _ => m

/-- A used zone enters OVERTEMP at a sample above the limit, and ZM reports it unless the zone was there already (R38). -/
def enterOvertemp (z : Zone) (v : Int) (m : ZoneMeasurement) (s : State) : State :=
  if m.state = .overtemp then setZone z m s
  else
    reportFault .overtemp (.zone z) (.number v)
      (setZone z { enterZoneState .overtemp m with holdTimer := .stopped } s)

/-! ### Sample intake (R28, R29, R76) -/

/-- Replace one of a zone's channels. -/
def ZoneMeasurement.setChannel (m : ZoneMeasurement) (k : ChannelKind) (c : Channel) : ZoneMeasurement :=
  match k with
  | .profile => { m with profile := c }
  | .spike => { m with spike := c }

/-- The range of a good thermocouple sample (R29). -/
def goodTemperature (v : Int) : Bool := decide (-500 ≤ v ∧ v ≤ 16000)

/-- A good sample on a channel: its value, and then the overtemperature test or the recovery (R29, R36, R38, log 12). -/
def goodSample (z : Zone) (k : ChannelKind) (v : Int) (s : State) : State :=
  let m := s.zoneM z
  let m1 := m.setChannel k ⟨.ok, some v, some 0, .running Config.goodSampleMs⟩
  if s.used z then
    if (s.image.zoneLimit : Int) < v then enterOvertemp z v m1 s
    else setZone z (if (m.channel k).valid then m1 else channelRecovered k m1) s
  else setZone z m1 s

/-- A record taken into a thermocouple channel (table of R29). -/
def takeSample (z : Zone) (k : ChannelKind) (status : SampleStatus) (v : Int) (s : State) : State :=
  if status = .ok ∧ goodTemperature v then goodSample z k v s
  else
    let c := (s.zoneM z).channel k
    setZone z ((s.zoneM z).setChannel k { c with status := if status = .ok then .range else status }) s

/-- A readback record taken by GC (table of R76). -/
def takeReadback (l : GasLine) (status : SampleStatus) (v : Int) (s : State) : State :=
  let c := s.line l
  let c1 : LineControl :=
    if status = .ok ∧ 0 ≤ v ∧ v ≤ 1000 then
      { c with status := .ok, lastGood := some v.toNat, age := some 0, timer := .running Config.goodSampleMs }
    else { c with status := if status = .ok then .range else status }
  { s with gc.lines := s.gc.lines.set l c1 }

/-- Where a channel number leads (table of R28). -/
inductive ChannelUse where
  | thermocouple (z : Zone) (k : ChannelKind)
  | readback (l : GasLine)
  | nothing
deriving DecidableEq, Repr

/-- The table of R28. -/
def channelUse (n : Nat) : ChannelUse :=
  match n with
  | 0 => .thermocouple .z1 .profile
  | 1 => .thermocouple .z2 .profile
  | 2 => .thermocouple .z3 .profile
  | 3 => .thermocouple .z4 .profile
  | 4 => .thermocouple .z5 .profile
  | 5 => .thermocouple .z1 .spike
  | 6 => .thermocouple .z2 .spike
  | 7 => .thermocouple .z3 .spike
  | 8 => .thermocouple .z4 .spike
  | 9 => .thermocouple .z5 .spike
  | 10 => .readback .purge
  | 11 => .readback .carrier
  | 12 => .readback .oxidant
  | _ => .nothing

/-- The field-check error count rises (R28, R199). -/
def countCheckError (s : State) : State := { s with zm.checkErrors := satSucc Config.count16 s.zm.checkErrors }

/-- ZM handles one record of the field link receiver (R28). -/
def takeRecord (s : State) (o : FieldOutput) : State :=
  match o with
  | .bad => countCheckError s
  | .record chanStatus hi lo =>
    match sampleStatus chanStatus with
    | none => countCheckError s
    | some status =>
      match channelUse (sampleChannel chanStatus) with
      | .thermocouple z k => takeSample z k status (sampleValue hi lo) s
      | .readback l => takeReadback l status (sampleValue hi lo) s
      | .nothing => { s with zm.ignored := satSucc Config.count16 s.zm.ignored }

/-- Bytes arrive on the inbound field link from READY onward (R199). -/
def receiveField (bytes : List Byte) (s : State) : State :=
  let out := fieldFeed s.zm.rx bytes
  out.2.foldl takeRecord { s with zm.rx := out.1 }

/-! ### Learned offset (R37) -/

/-- The learned offset after a period with both channels valid. -/
def learnOffset (profile spike offset : Int) : Int :=
  clampInt (-500) 500 (offset + (profile - spike - offset).tdiv 16)

/-- A zone at a ZM period. -/
def zoneAtPeriod (used : Bool) (m : ZoneMeasurement) : ZoneMeasurement :=
  if used && m.profile.valid && m.spike.valid then
    match m.profile.lastGood, m.spike.lastGood with
    | some p, some q => { m with offset := learnOffset p q m.offset }
    | _, _ => m
  else m

/-! ### Meanings -/

/-- SAMPLE_RECORD: 0xE5 and four bytes at the field link receiver; before READY it does not hunt (R28, R199). -/
def execSampleRecord (b1 b2 b3 b4 : Byte) (s : State) : Host.Outcome State Fault Refusal :=
  .next (if s.released then receiveField [0xE5, b1, b2, b3, b4] s else s)

/-- CHANNEL_TIMER_EXPIRY: a valid channel becomes invalid, and its zone takes the change (R30, R32 to R34, R40). -/
def execChannelTimerExpiry (z : Zone) (k : ChannelKind) (s : State) : Host.Outcome State Fault Refusal :=
  .next (
    let m := s.zoneM z
    if (m.channel k).valid then
      let m1 := m.setChannel k { m.channel k with timer := .stopped }
      if s.used z then channelLost z k m1 s else setZone z m1 s
    else s)

/-- HOLD_TIMER_EXPIRY: a zone in LOST-HOLD enters LOST and ZM reports ZONE-LOST (R35). -/
def execHoldTimerExpiry (z : Zone) (s : State) : Host.Outcome State Fault Refusal :=
  .next (
    let m := s.zoneM z
    if m.state = .lostHold ∧ m.holdTimer.active then
      reportFault .zoneLost (.zone z) (faultValue m.lastMeasured)
        (setZone z { m with state := .lost, holdTimer := .stopped } s)
    else s)

/-- ZM_PERIOD: the learned offset of each used zone with both channels valid (R37). -/
def execZmPeriod (s : State) : Host.Outcome State Fault Refusal :=
  .next (
    if s.released then
      { s with
        zm.zones := PerZone.build fun z => zoneAtPeriod (s.used z) (s.zoneM z)
        zm.phase := .running Config.periodMs }
    else s)

end Sys2Proof.Machine
end

