-- ==== Sys2Proof/Machine/Dispatch.lean ====
section
/-!
DEFINITION. One arm per command, each a direct call of its meaning.
-/
namespace Sys2Proof.Machine

/-- The effect of a command on everything but the queue of waiting commands. -/
def exec (i : Instr) (s : State) : Host.Outcome State Fault Refusal :=
  match i with
  | .powerOnReset => Sys2Proof.Machine.execPowerOnReset s
  | .warmReset => Sys2Proof.Machine.execWarmReset s
  | .resetEnd cfgsrc addr => Sys2Proof.Machine.execResetEnd cfgsrc addr s
  | .serialMemoryReadEnd bytes => Sys2Proof.Machine.execSerialMemoryReadEnd bytes s
  | .configWrite body => Sys2Proof.Machine.execConfigWrite body s
  | .configDone body => Sys2Proof.Machine.execConfigDone body s
  | .statusRead body => Sys2Proof.Machine.execStatusRead body s
  | .zoneRead body => Sys2Proof.Machine.execZoneRead body s
  | .viewRead body => Sys2Proof.Machine.execViewRead body s
  | .eventRead body => Sys2Proof.Machine.execEventRead body s
  | .faultRead body => Sys2Proof.Machine.execFaultRead body s
  | .faultClear body => Sys2Proof.Machine.execFaultClear body s
  | .stepAppend body => Sys2Proof.Machine.execStepAppend body s
  | .queueClear body => Sys2Proof.Machine.execQueueClear body s
  | .runStart body => Sys2Proof.Machine.execRunStart body s
  | .runHold body => Sys2Proof.Machine.execRunHold body s
  | .runResume body => Sys2Proof.Machine.execRunResume body s
  | .runAbort body => Sys2Proof.Machine.execRunAbort body s
  | .boatMove body => Sys2Proof.Machine.execBoatMove body s
  | .lineError chars => Sys2Proof.Machine.execLineError chars s
  | .lpGapTimeout chars => Sys2Proof.Machine.execLpGapTimeout chars s
  | .badCheckFrame kind body check => Sys2Proof.Machine.execBadCheckFrame kind body check s
  | .replyEnd => Sys2Proof.Machine.execReplyEnd s
  | .dwellExpiry => Sys2Proof.Machine.execDwellExpiry s
  | .stepTimeoutExpiry => Sys2Proof.Machine.execStepTimeoutExpiry s
  | .abortTimeout => Sys2Proof.Machine.execAbortTimeout s
  | .runClockTick => Sys2Proof.Machine.execRunClockTick s
  | .sampleRecord b1 b2 b3 b4 => Sys2Proof.Machine.execSampleRecord b1 b2 b3 b4 s
  | .channelTimerExpiry zone kind => Sys2Proof.Machine.execChannelTimerExpiry zone kind s
  | .holdTimerExpiry zone => Sys2Proof.Machine.execHoldTimerExpiry zone s
  | .zmPeriod => Sys2Proof.Machine.execZmPeriod s
  | .zcPeriod => Sys2Proof.Machine.execZcPeriod s
  | .heaterWindowStart zone => Sys2Proof.Machine.execHeaterWindowStart zone s
  | .heaterOnTimeEnd zone => Sys2Proof.Machine.execHeaterOnTimeEnd zone s
  | .gcPeriod => Sys2Proof.Machine.execGcPeriod s
  | .readbackTimerExpiry line => Sys2Proof.Machine.execReadbackTimerExpiry line s
  | .setpointRecordSend => Sys2Proof.Machine.execSetpointRecordSend s
  | .repeatTimerExpiry line => Sys2Proof.Machine.execRepeatTimerExpiry line s
  | .sealDeassert => Sys2Proof.Machine.execSealDeassert s
  | .sealAssert => Sys2Proof.Machine.execSealAssert s
  | .encoderCount line => Sys2Proof.Machine.execEncoderCount line s
  | .stepPulse => Sys2Proof.Machine.execStepPulse s
  | .loadclrAssert => Sys2Proof.Machine.execLoadclrAssert s
  | .loadclrDeassert => Sys2Proof.Machine.execLoadclrDeassert s
  | .reclearTimerExpiry => Sys2Proof.Machine.execReclearTimerExpiry s
  | .markCapture => Sys2Proof.Machine.execMarkCapture s
  | .bdEvaluation => Sys2Proof.Machine.execBdEvaluation s
  | .announceReceived station body => Sys2Proof.Machine.execAnnounceReceived station body s
  | .curtailReceived station level => Sys2Proof.Machine.execCurtailReceived station level s
  | .curtailAckReceived station level origin => Sys2Proof.Machine.execCurtailAckReceived station level origin s
  | .bankFrameError frame => Sys2Proof.Machine.execBankFrameError frame s
  | .entryStale station => Sys2Proof.Machine.execEntryStale station s
  | .entryRemoved station => Sys2Proof.Machine.execEntryRemoved station s
  | .lineIdle => Sys2Proof.Machine.execLineIdle s
  | .attemptStart => Sys2Proof.Machine.execAttemptStart s
  | .arbitrationLost => Sys2Proof.Machine.execArbitrationLost s
  | .attemptAbandoned => Sys2Proof.Machine.execAttemptAbandoned s
  | .transmitCompletion => Sys2Proof.Machine.execTransmitCompletion s
  | .announceTimerExpiry => Sys2Proof.Machine.execAnnounceTimerExpiry s
  | .listenTimerExpiry => Sys2Proof.Machine.execListenTimerExpiry s
  | .silenceTimerExpiry => Sys2Proof.Machine.execSilenceTimerExpiry s
  | .muteTimerExpiry => Sys2Proof.Machine.execMuteTimerExpiry s
  | .curtailInputChange cl1 cl0 => Sys2Proof.Machine.execCurtailInputChange cl1 cl0 s
  | .debounceTimerExpiry => Sys2Proof.Machine.execDebounceTimerExpiry s
  | .ackTimerExpiry => Sys2Proof.Machine.execAckTimerExpiry s
  | .otherKindFrame code station body => Sys2Proof.Machine.execOtherKindFrame code station body s
  | .unknownKindRequest kind body => Sys2Proof.Machine.execUnknownKindRequest kind body s
  | .bankLineGlitch => Sys2Proof.Machine.execBankLineGlitch s

end Sys2Proof.Machine
end

