-- ==== Sys2Proof/Machine/Step.lean ====
section
/-!
DEFINITION. One step: the waiting command at the front runs; with none waiting, the part's own clock does (log 2).
-/
namespace Sys2Proof.Machine

/-- One step of the part. -/
def step (s : State) : Host.Outcome State Fault Refusal :=
  match s.pending with
  | c :: rest => exec c { s with pending := rest }
  | [] => .next (idleStep s)

/-- The command that a word spells is put at the front of the queue. The table gives no row bits, so no word spells one
(log 8). -/
def State.withFetchWord (s : State) (nbits w : Nat) : State :=
  match decodeTableWord nbits w with
  | some c => { s with pending := c :: s.pending }
  | none => s

end Sys2Proof.Machine
end

