-- ==== Sys2Proof/Safety.lean ====
section
/-!
DEFINITION. What holds in every state of a safe run, and the parts of a state that a claim's frame leaves open.
-/
namespace Sys2Proof.Machine

/-! ### Frames -/

/-- The state with everything blanked that the reactions to a change of an input may set of themselves: the pending events
(R90), the pulse interval timer (R91), the held grants and the ANNOUNCE slot (R120, R121), the cap-seen flag (R63) and the
outbound queue (R75). Two states equal in this are equal in every other field. -/
def State.withoutReactions (s : State) : State :=
  { s with
    lp.events := []
    bd.pulse := none
    bu.heldHeater := 0
    bu.heldPurge := 0
    bl.announceSlot := false
    zc.capSeen := false
    gc.queue := [] }

/-- LP is ready to serve a request at once: it hunts for a start byte and no reply is in progress (R170, R173). -/
abbrev State.portReady (s : State) : Prop := s.lp.rx = .hunting ∧ s.lp.reply = none

/-- The last character of a frame has just come: the gap timer restarts (R170). -/
def State.heard (s : State) : State := { s with lp := { s.lp with gap := 0 } }

/-- A request frame has been taken and this reply has become the reply in progress (R170, R173, R174). -/
def State.answered (s : State) (r : Reply) : State :=
  { s with lp := { s.lp with gap := 0, reply := some r, replyTimer := .running (replyMs r) } }

/-- The command that a request is, with its body. -/
def Request.command (r : Request) (body : List Byte) : Instr :=
  match r with
  | .statusRead => .statusRead body
  | .zoneRead => .zoneRead body
  | .viewRead => .viewRead body
  | .eventRead => .eventRead body
  | .faultRead => .faultRead body
  | .faultClear => .faultClear body
  | .stepAppend => .stepAppend body
  | .queueClear => .queueClear body
  | .runStart => .runStart body
  | .runHold => .runHold body
  | .runResume => .runResume body
  | .runAbort => .runAbort body
  | .boatMove => .boatMove body
  | .configWrite => .configWrite body
  | .configDone => .configDone body

/-! ### Invariants -/

/-- The start-up state and what depends on it agree: before the release every block other than CL, FL and LP stays as its reset
left it, and no image is in force (R187); from the release on an image with a station number of 1 to 8 is in force (R189, R190);
and a part in reset is before its release, in LOADING with LP skipping (R181, R182). -/
structure State.StartCoherent (s : State) : Prop where
  quiet : s.released = false →
    s.cl.image = none ∧ s.rs = Sequencer.reset ∧ s.zm = Measurement.reset ∧ s.zc = Heat.reset ∧ s.gc = Gas.reset ∧
    s.bd = Boat.reset ∧ s.bu = Budget.reset ∧ s.bl = Bank.reset
  image : s.released = true → s.cl.image.isSome
  station : ∀ i, s.cl.image = some i → 1 ≤ i.station ∧ i.station ≤ 8
  reset : s.resetHeld.isSome → s.cl.startup = .loading ∧ s.lp.rx = .skipping

/-- Each held grant is at or below its computed grant (R119, R120). -/
abbrev State.HeldWithinComputed (s : State) : Prop :=
  s.bu.heldHeater ≤ s.computedGrant .heater ∧ s.bu.heldPurge ≤ s.computedGrant .purge

/-- The demand is that of the raw drives as they stand (R61). -/
abbrev State.DemandCurrent (s : State) : Prop :=
  s.zc.demand = PerZone.sum fun z => if s.used z then (s.zoneC z).draw * s.image.rating.get z else 0

/-- The heater power drawn, in units of 0.1 W: the sum over the zones of applied drive times rating (R62). -/
def State.appliedPower (s : State) : Nat := PerZone.sum fun z => s.appliedDrive z * s.image.rating.get z

/-- Queues, counts and the staging image keep their sizes (R9, R25, R26, R28, R78, R100, R133, R137, R159, R171, R173, R182). -/
structure State.WithinRanges (s : State) : Prop where
  queue : s.rs.queue.length ≤ Config.queueCapacity
  marks : s.bd.marks.length ≤ Config.markCapacity
  accumulator : s.gc.acc ≤ Config.count32
  clock : s.rs.clock ≤ Config.count32
  done : s.rs.done ≤ Config.count16
  discarded : s.rs.discarded ≤ Config.queueCapacity
  abandons : s.bl.abandons ≤ Config.abandonLimit
  faults : s.fl.count ≤ 255
  checkErrors : s.zm.checkErrors ≤ Config.count16
  ignored : s.zm.ignored ≤ Config.count16
  rxErrors : s.bl.rxErrors ≤ Config.count16
  contentErrors : s.bu.contentErrors ≤ Config.count16
  lineErrors : s.lp.lineErrors ≤ Config.count16
  overruns : s.lp.overruns ≤ Config.count16
  staging : s.cl.staging.length = 64

/-- The boat's positions, its outstanding target, the targets RS holds for it and the full-in position lie within the boat's
range (R4, R86, R87). -/
structure State.BoatInRange (s : State) : Prop where
  encoder : s.bd.e ≤ Config.positionMax
  commanded : s.bd.c ≤ Config.positionMax
  target : ∀ m, s.bd.move = some m → m.target ≤ Config.positionMax
  steps : ∀ r ∈ s.rs.queue, ∀ m, r.boat = some m → m.target ≤ Config.positionMax
  fullIn : s.image.pIn ≤ Config.positionMax

/-- One entry of the peer view holds what R106 allows it to hold. -/
structure ViewEntry.Sound (own : Nat) (e : ViewEntry) : Prop where
  station : 1 ≤ e.station ∧ e.station ≤ 8
  peer : e.station ≠ own
  heater : e.heater.floor ≤ e.heater.want ∧ e.heater.want ≤ 4000 ∧ e.heater.held ≤ 4000
  purge : e.purge.floor ≤ e.purge.want ∧ e.purge.want ≤ 2400 ∧ e.purge.held ≤ 2400
  rank : e.rank ≤ 3

/-- The peer view: sound entries of distinct stations, none the own, by rising station number (R106, R108). -/
abbrev State.ViewSound (s : State) : Prop :=
  s.bu.view.Pairwise (·.station < ·.station) ∧ ∀ e ∈ s.bu.view, e.Sound s.image.station

/-- The run state and what RS holds beside it agree (R12, R16, R17, R18, R19, R23, R26). -/
structure State.RunCoherent (s : State) : Prop where
  running : s.rs.run = .running → s.rs.current.isSome
  idle : s.rs.run = .idle → s.rs.current = none ∧ s.rs.thermal = none ∧ s.rs.gas = none ∧ s.rs.labelInForce = none
  starved : s.rs.run = .starved → s.rs.current = none ∧ s.rs.queue = []
  aborting : s.rs.run = .aborting → s.rs.current = none ∧ s.rs.thermal = none ∧ s.rs.gas = none ∧ s.rs.queue = []
  heldPrior : s.rs.run = .held ↔ s.rs.prior.isSome
  heldCurrent : s.rs.run = .held → (s.rs.prior = some .running ↔ s.rs.current.isSome)

/-- The gate is open or re-clearing only while LOADCLR is asserted (R89). -/
abbrev State.GateFollows (s : State) : Prop := s.bd.gate ≠ .closed → s.pins.loadclr = true

/-- The pulse interval timer runs exactly while pulsing is allowed (R91). -/
abbrev State.PulseTimerFollows (s : State) : Prop := s.bd.pulse.isSome = s.pulsing

/-- Every zone target and every seeded setpoint lies within 0 to the zone limit, and so do the targets of the records that RS
holds and the idle temperature (R2, R45, R48, R188). -/
structure State.SetpointsWithinLimit (s : State) : Prop where
  target : ∀ z t, (s.zoneC z).target = some t → t ≤ s.image.zoneLimit
  setpoint : ∀ z x, (s.zoneC z).spi = some x → x ≤ s.image.zoneLimit * 120
  steps : ∀ r ∈ s.rs.queue, ∀ p, r.thermal = some p → ∀ z, p.targets.get z ≤ s.image.zoneLimit
  idle : s.image.idleTemperature ≤ s.image.zoneLimit

/-- The small records keep their form: MUTE stands exactly while the consecutive-abandon count is 8, and no attempt is under way
in it (R136, R137, R141); the line is busy throughout an attempt (R130, R136); an abort order waits only for a command that it may
meet (R162, R166, log 35); an entry waits in the input slot only behind a reply in progress (R173); the outbound queue holds each line at most once (R75); the pending event
set is in the table's order with each kind at most once (R178), and the summary set likewise (R159); a collection in progress
awaits at least one acknowledgement (R150, R151); the abort purge is in progress exactly in ABORTING (R82). -/
structure State.FormKept (s : State) : Prop where
  mute : s.bl.mute = decide (s.bl.abandons = Config.abandonLimit)
  silent : s.bl.mute = true → s.bl.attempt = none
  line : s.bl.attempt.isSome → s.bl.line = .busy
  order : s.rs.abortOrdered = true → s.orderMeets = true
  slot : s.lp.slot.isSome → s.lp.reply.isSome
  outbound : s.gc.queue.Nodup
  events : s.lp.events.Sublist EventKind.all
  summary : s.fl.summary.Sublist FaultKind.all
  collection : ∀ c, s.bu.collection = some c → c.expected ≠ []
  abortPurge : s.gc.abortPurge = decide (s.rs.run = .aborting)

/-- A computed grant above its held grant has the ANNOUNCE slot pending (R121). -/
abbrev State.RaisePending (s : State) : Prop :=
  (s.bu.heldHeater < s.computedGrant .heater ∨ s.bu.heldPurge < s.computedGrant .purge) → s.bl.announceSlot = true

/-- In RUNNING the current step has a condition that does not hold: a step whose conditions hold together does not stay current
(R14). -/
abbrev State.StepOpen (s : State) : Prop :=
  s.rs.run = .running → ∀ r, s.rs.current = some r → s.conditionsHold r.conditions = false

/-! ### The body a tube computer writes (R195) -/

/-- The presence flags of a record. -/
def RawStep.flags (r : RawStep) : Byte :=
  BitVec.ofNat 8 ((if r.thermal.isSome then 1 else 0) + (if r.gas.isSome then 2 else 0) + if r.boat.isSome then 4 else 0)

/-- The condition byte of a record. -/
def RawStep.conditionByte (r : RawStep) : Byte :=
  BitVec.ofNat 8 ((if r.conditions.thermalSettled then 1 else 0) + (if r.conditions.boatArrived then 2 else 0) +
    (if r.conditions.purgeDone then 4 else 0) + (if r.conditions.dwell then 8 else 0) + if r.last then 128 else 0)

/-- The fifteen bytes of a thermal part. -/
def RawThermal.bytes (p : RawThermal) : List Byte :=
  bytesOfInt 2 p.centre ++ p.offsets.toList.flatMap (bytesOfInt 2) ++ bytesOf 1 p.rate ++ bytesOf 2 p.band

/-- The seven bytes of a gas part. -/
def GasPart.bytes (p : GasPart) : List Byte :=
  bytesOf 2 p.flows.purge ++ bytesOf 2 p.flows.carrier ++ bytesOf 2 p.flows.oxidant ++ bytesOf 1 p.requirement

/-- The six bytes of a boat part. -/
def BoatPart.bytes (p : BoatPart) : List Byte := bytesOf 2 p.target ++ bytesOf 2 p.speed ++ bytesOf 2 p.droop

/-- The step record body laid out by R195. -/
def RawStep.bytes (r : RawStep) : List Byte :=
  bytesOf 2 r.label ++ [r.flags] ++ (r.thermal.map RawThermal.bytes).getD [] ++ (r.gas.map GasPart.bytes).getD [] ++
  (r.boat.map BoatPart.bytes).getD [] ++ [r.conditionByte] ++ bytesOf 2 r.dwell ++ bytesOf 2 r.timeout

/-- A value fits a two-byte signed field. -/
def fitsSigned (v : Int) : Bool := decide (-32768 ≤ v ∧ v ≤ 32767)

/-- A value fits an unsigned field of `n` bytes. -/
def fitsBytes (n v : Nat) : Bool := decide (v < 256 ^ n)

/-- Every field of a record fits the width R195 gives it. -/
def RawStep.fits (r : RawStep) : Bool :=
  fitsBytes 2 r.label && fitsBytes 2 r.dwell && fitsBytes 2 r.timeout &&
  r.thermal.all (fun p => fitsSigned p.centre && PerZone.all (fun z => fitsSigned (p.offsets.get z)) && fitsBytes 1 p.rate &&
    fitsBytes 2 p.band) &&
  r.gas.all (fun p => fitsBytes 2 p.flows.purge && fitsBytes 2 p.flows.carrier && fitsBytes 2 p.flows.oxidant &&
    fitsBytes 1 p.requirement) &&
  r.boat.all fun p => fitsBytes 2 p.target && fitsBytes 2 p.speed && fitsBytes 2 p.droop

end Sys2Proof.Machine
end

