-- ==== Sys2Proof/Certificates/Slice0/Obligations.lean ====
section
/-!
DEFINITION. What this model claims, one proposition per claim; OBLIGATIONS.json lists them with the rules of spec/ each one
formalises. A frame is written with `withoutReactions`: the two states agree in everything but the fields that the reactions to
a change set of themselves, and what the reactions may do to those is claimed by the whole-machine statements.
-/
open Sys2Proof Sys2Proof.Machine

/-! ### The machine -/

/-- A step with a command at the front of the queue runs that command on the state with the rest of the queue. -/
def Obligations.StepRunsFrontCommand : Prop :=
  ∀ (c : Instr) (rest : List Instr) (s : State),
    step { s with pending := c :: rest } = exec c { s with pending := rest }

/-- The model's choice (logs 2, 3 and 20): with nothing waiting, a step puts one of the commands that are due into the queue; with
none due it lets one millisecond pass, and in reset it changes nothing. What the millisecond does to every timer, age, window and
count (the dwell and step-timeout timers stand still outside RUNNING), and when exactly each command is due. -/
def Obligations.IdleStepRunsTheClock : Prop :=
  (∀ s : State, s.pending = [] → ∃ t, step s = .next t ∧
    (due s = [] → s.resetHeld.isSome → t = s) ∧
    (due s = [] → s.resetHeld = none → t = advance s) ∧
    (due s ≠ [] → ∃ c ∈ due s, t = { s with pending := [c], free := t.free })) ∧
  (∀ s : State,
    let tick := fun x : Timer => match x with
      | .running n => .running (n - 1)
      | other => other
    let older := fun c : Channel => { c with age := c.age.map (· + 1), timer := tick c.timer }
    let dwelling : Bool := decide (s.rs.run = .running ∧ s.rs.dwell.phase = .counting ∧ s.rs.dwell.holds = false) &&
      s.rs.current.any (·.conditions.dwell)
    advance s = { s with
      rs := { s.rs with
        dwell := { s.rs.dwell with elapsed := s.rs.dwell.elapsed + if dwelling then 1 else 0 }
        stepTimer := if s.rs.run = .running then tick s.rs.stepTimer else s.rs.stepTimer
        abortTimer := tick s.rs.abortTimer
        clockPhase := tick s.rs.clockPhase }
      zm := { s.zm with
        zones := PerZone.build fun z => { s.zoneM z with
          profile := older (s.zoneM z).profile, spike := older (s.zoneM z).spike, holdTimer := tick (s.zoneM z).holdTimer }
        phase := tick s.zm.phase }
      zc := { s.zc with
        zones := PerZone.build fun z => { s.zoneC z with window := match (s.zoneC z).window with
          | .off => .off
          | .waiting n => .waiting (n - 1)
          | .running t => .running (t + 1) }
        phase := tick s.zc.phase }
      gc := { s.gc with
        lines := PerLine.build fun l => { s.line l with
          age := (s.line l).age.map (· + 1), timer := tick (s.line l).timer, repeatTimer := tick (s.line l).repeatTimer }
        phase := tick s.gc.phase }
      bd := { s.bd with
        reclear := tick s.bd.reclear, pulse := s.bd.pulse.map (· + 1000), phase := tick s.bd.phase }
      bu := { s.bu with
        view := s.bu.view.map fun e => { e with age := min (10 * s.image.announcePeriod) (e.age + 1) }
        debounce := tick s.bu.debounce
        collection := s.bu.collection.map fun c => { c with timer := tick c.timer } }
      bl := { s.bl with
        listen := tick s.bl.listen, silence := tick s.bl.silence, muteTimer := tick s.bl.muteTimer
        announce := tick s.bl.announce
        line := match s.bl.line with
          | .recessive us => .recessive (us + 1000)
          | other => other }
      lp := { s.lp with gap := min 21 (s.lp.gap + 1), replyTimer := tick s.lp.replyTimer } }) ∧
  (∀ (s : State) (c : Instr), c ∈ due s ↔ s.resetHeld = none ∧ match c with
    | .dwellExpiry => ∃ r, s.rs.run = .running ∧ s.rs.current = some r ∧ r.conditions.dwell = true ∧
        s.rs.dwell.phase = .counting ∧ s.rs.dwell.holds = false ∧ r.dwell * 1000 ≤ s.rs.dwell.elapsed
    | .stepTimeoutExpiry => s.rs.run = .running ∧ s.rs.current.isSome ∧ s.rs.stepTimer = .running 0
    | .abortTimeout => s.rs.run = .aborting ∧ s.rs.abortTimer = .running 0
    | .runClockTick => s.rs.run ≠ .idle ∧ s.rs.clockPhase = .running 0
    | .channelTimerExpiry z k => ((s.zoneM z).channel k).timer = .running 0
    | .holdTimerExpiry z => (s.zoneM z).state = .lostHold ∧ (s.zoneM z).holdTimer = .running 0
    | .heaterWindowStart z => (s.zoneC z).window = .waiting 0 ∨ ∃ t, (s.zoneC z).window = .running t ∧ 1000 ≤ t
    | .zmPeriod => s.released = true ∧ s.zm.phase = .running 0
    | .zcPeriod => s.released = true ∧ s.zc.phase = .running 0
    | .gcPeriod => s.released = true ∧ s.gc.phase = .running 0
    | .bdEvaluation => s.released = true ∧ s.bd.phase = .running 0
    | .readbackTimerExpiry l => s.released = true ∧ (s.line l).timer = .running 0
    | .repeatTimerExpiry l => s.released = true ∧ (s.line l).repeatTimer = .running 0
    | .setpointRecordSend => s.released = true ∧ s.gc.queue ≠ []
    | .reclearTimerExpiry => s.released = true ∧ s.bd.gate = .reclearing ∧ s.bd.reclear = .running 0
    | .stepPulse => s.released = true ∧ s.pulsing = true ∧
        ∃ t v, s.bd.pulse = some t ∧ s.pulseInterval = some v ∧ v ≤ t
    | .entryStale n => s.released = true ∧ ∃ e ∈ s.bu.view, e.station = n ∧ e.stale = false ∧
        3 * s.image.announcePeriod ≤ e.age ∧ e.age < 10 * s.image.announcePeriod
    | .entryRemoved n => s.released = true ∧ ∃ e ∈ s.bu.view, e.station = n ∧ 10 * s.image.announcePeriod ≤ e.age
    | .lineIdle => s.released = true ∧ s.bl.attempt = none ∧ ∃ us, s.bl.line = .recessive us ∧ 96 ≤ us
    | .attemptStart => s.released = true ∧ s.bl.phase = .on ∧ s.bl.mute = false ∧ s.bl.attempt = none ∧ s.bl.line = .idle ∧
        (s.bl.curtailSlot.isSome ∨ s.bl.ackSlot.isSome ∨ s.bl.announceSlot = true)
    | .announceTimerExpiry => s.released = true ∧ s.bl.announce = .running 0
    | .listenTimerExpiry => s.released = true ∧ s.bl.phase = .joining ∧ s.bl.listen = .running 0
    | .silenceTimerExpiry => s.released = true ∧ s.bl.phase = .on ∧ s.bl.silence = .running 0
    | .muteTimerExpiry => s.released = true ∧ s.bl.mute = true ∧ s.bl.muteTimer = .running 0
    | .debounceTimerExpiry => s.released = true ∧ s.bu.debounce = .running 0
    | .ackTimerExpiry => s.released = true ∧ ∃ k, s.bu.collection = some k ∧ k.timer = .running 0
    | .lpGapTimeout chars => chars = [] ∧ 20 < s.lp.gap ∧ s.lp.rx ≠ .hunting
    | .replyEnd => s.lp.reply.isSome ∧ s.lp.replyTimer = .running 0
    | _ => False)

/-- No command stops the machine, which is the model's inference (log 30): each answers a next state, which keeps the waiting
commands and the fuses. -/
def Obligations.EveryCommandAnswersNext : Prop :=
  ∀ (c : Instr) (s : State), ∃ t, exec c s = .next t ∧ t.pending = s.pending ∧ t.fuses = s.fuses

/-- POWER_ON_RESET, WARM_RESET and RESET_END, whole: what each leaves in every block, and what it keeps. That a reset keeps the
strap levels last sampled (log 4), the pins (log 6) and the count of free choices (log 31) is the model's choice. -/
def Obligations.ResetCommands : Prop :=
  ∀ s : State,
    exec .powerOnReset s = .next { State.reset with
      cl := { Loader.reset with cfgsrc := s.cl.cfgsrc, addr := s.cl.addr }
      pins := s.pins, fuses := s.fuses, resetHeld := some .powerOn, pending := s.pending, free := s.free } ∧
    (s.resetHeld = none → exec .warmReset s = .next { State.reset with
      cl := { Loader.reset with cfgsrc := s.cl.cfgsrc, addr := s.cl.addr }
      fl := s.fl
      pins := s.pins, fuses := s.fuses, resetHeld := some .warm, pending := s.pending, free := s.free }) ∧
    (s.resetHeld.isSome → exec .warmReset s = .next s) ∧
    (∀ addr, s.resetHeld.isSome → exec (.resetEnd .memory addr) s = .next { s with
      cl := ⟨.loading, List.replicate 64 0, none, .memory, addr, false⟩
      lp := { s.lp with gap := 0 }, resetHeld := none }) ∧
    (∀ addr, s.resetHeld.isSome → exec (.resetEnd .port addr) s = .next { s with
      cl := ⟨.portWait, List.replicate 64 0, none, .port, addr, false⟩
      lp := { s.lp with gap := 0 }, resetHeld := none }) ∧
    (∀ cfgsrc addr, s.resetHeld = none → exec (.resetEnd cfgsrc addr) s = .next s)

/-- The values that the chapters give for after a reset, as `State.reset` holds them, and that no computed grant, no applied flow,
no applied drive and no boat pulse is above nothing there. That BSTEP stays low until the first pulse is the model's (log 44). -/
def Obligations.ResetValues : Prop :=
  let s := State.reset
  (s.rs.run = .idle ∧ s.rs.prior = none ∧ s.rs.queue = [] ∧ s.rs.current = none ∧ s.rs.thermal = none ∧ s.rs.gas = none ∧
    s.rs.dwell.phase = .stopped ∧ s.rs.stepTimer = .stopped ∧ s.rs.abortTimer = .stopped ∧ s.rs.clock = 0 ∧ s.rs.done = 0 ∧
    s.rs.discarded = 0 ∧ s.rs.labelInForce = none ∧ s.rs.lastLabel = none) ∧
  (∀ z, s.zoneM z = ⟨.lostHold, ⟨.ok, none, none, .stopped⟩, ⟨.ok, none, none, .stopped⟩, 0, none, .stopped⟩ ∧
    s.zoneC z = ⟨none, none, 0, 0, .off⟩ ∧ s.appliedDrive z = 0 ∧ s.heaterHigh z = false) ∧
  (s.zc.rate = none ∧ s.zc.band = none ∧ s.zc.demand = 0 ∧ s.zc.want = 0 ∧ s.zc.floor = 0 ∧ s.zc.frozen = false ∧
    s.thermalSettled = false) ∧
  (∀ l, s.line l = ⟨0, .ok, none, none, .stopped, none, false, false, .stopped⟩ ∧ s.appliedFlow l = 0) ∧
  (s.gc.acc = 0 ∧ s.gc.requirement = none ∧ s.gc.abortPurge = false ∧ s.gc.queue = [] ∧ s.purgeDone = false) ∧
  (s.zm.checkErrors = 0 ∧ s.zm.ignored = 0 ∧ s.zc.settle = none ∧ s.zc.rampWait = false ∧ s.zc.capSeen = false) ∧
  (s.bd.e = 0 ∧ s.bd.c = 0 ∧ s.bd.dir = .inward ∧ s.motion = .rest ∧ s.bd.gate = .closed ∧ s.bd.reclear = .stopped ∧
    s.bd.marks = [] ∧ s.bd.lastMark = none ∧ s.bd.referenced = false ∧ s.pulsing = false ∧ s.bd.pulse = none ∧
    s.bd.move = none ∧ s.bd.factor = .full ∧ s.bd.droopWait = false ∧ s.bd.bdir = false ∧ s.bd.droop = none ∧
    s.appliedSpeed = none ∧ s.bdirLevel = false ∧ ∀ us, s.bstepLevel us = false) ∧
  (s.bu.view = [] ∧ s.bu.heater = ⟨0, 0⟩ ∧ s.bu.purge = ⟨0, 0⟩ ∧ s.rank = 0 ∧ s.bu.heldHeater = 0 ∧ s.bu.heldPurge = 0 ∧
    s.bu.level = .l100 ∧ s.bu.contentErrors = 0 ∧ s.bu.collection = none ∧ s.bu.debounced = .l100 ∧
    s.bu.debounce = .stopped ∧ s.bu.frameHeard = false ∧ ∀ p, s.computedGrant p = 0) ∧
  (s.linkState = .inactive ∧ s.bl.curtailSlot = none ∧ s.bl.ackSlot = none ∧ s.bl.announceSlot = false ∧ s.bl.attempt = none ∧
    s.bl.line = .stopped ∧ s.bl.abandons = 0 ∧ s.bl.rxErrors = 0 ∧ s.bl.listen = .stopped ∧ s.bl.silence = .stopped ∧ s.bl.muteTimer = .stopped ∧
    s.bl.announce = .stopped) ∧
  (s.fl.first = none ∧ s.fl.next = none ∧ s.fl.summary = [] ∧ s.fl.count = 0 ∧ s.fl.pending = false) ∧
  (s.lp.rx = .skipping ∧ s.lp.slot = none ∧ s.lp.reply = none ∧ s.lp.events = [] ∧ s.lp.attn = false ∧ s.lp.lineErrors = 0 ∧
    s.lp.overruns = 0) ∧
  (s.cl.startup = .loading ∧ s.cl.staging = List.replicate 64 0 ∧ s.cl.image = none ∧ s.cl.clamped = false)

/-- Every invariant that the statements below keep holds after reset. -/
def Obligations.ResetMeetsInvariants : Prop :=
  State.reset.StartCoherent ∧ State.reset.HeldWithinComputed ∧ State.reset.DemandCurrent ∧ State.reset.WithinRanges ∧
  State.reset.BoatInRange ∧ State.reset.ViewSound ∧ State.reset.RunCoherent ∧ State.reset.GateFollows ∧
  State.reset.PulseTimerFollows ∧ State.reset.SetpointsWithinLimit ∧ State.reset.FormKept ∧ State.reset.RaisePending ∧
  State.reset.StepOpen

/-! ### Whole-machine statements: invariants of every step -/

/-- The start-up state and what depends on it stay in agreement: before the release everything but CL, FL and LP is as its reset
left it. -/
def Obligations.StartCoherentKept : Prop :=
  ∀ s t : State, s.StartCoherent → step s = .next t → t.StartCoherent

/-- At every moment each held grant is at or below its computed grant, and where it is below, the ANNOUNCE slot is pending. Over all
commands that start and end no step and leave the run state (resets apart): a held grant falls only where an input of the shares
changes, and then each held grant is the smaller of what it was and its computed grant, so that one whose computed grant has not
fallen below it stays. (A frame that ends ISOLATED, or whose level JOINING adopts, changes the inputs twice; there the first part
alone is said.) Entries to HELD, IDLE and ABORTING and step starts lower the held grants in the same way. -/
def Obligations.GrantsFollowShares : Prop :=
  (∀ s t : State, s.StartCoherent → s.HeldWithinComputed → s.RaisePending → step s = .next t →
    t.HeldWithinComputed ∧ t.RaisePending) ∧
  (∀ (c : Instr) (s t : State) (p : Supply), s.StartCoherent → s.HeldWithinComputed → exec c s = .next t →
    c ≠ .powerOnReset → c ≠ .warmReset → s.rs.done < 65535 → t.rs.run = s.rs.run → t.rs.current = s.rs.current →
    t.rs.queue = s.rs.queue → t.rs.done = s.rs.done →
      (t.heldGrant p < s.heldGrant p → t.shareInputs ≠ s.shareInputs) ∧
      (c ≠ .transmitCompletion → (s.bl.isolated = true → t.bl.isolated = true) →
        (s.bl.phase = .joining → t.bu.level = s.bu.level) →
          t.heldGrant p = min (s.heldGrant p) (t.computedGrant p))) ∧
  (∀ (s : State) (r : StepRecord) (p : Supply), s.HeldWithinComputed →
    ∀ entry : State → State, entry ∈ [enterHeld, enterIdle, beginAbort, startStep r] →
      (entry s).heldGrant p = min (s.heldGrant p) ((entry s).computedGrant p))

/-- The demand stays the demand of the raw drives, and with it the heater power drawn, the sum over zones of applied drive times
rating, never exceeds the held heater grant. Over all commands: a fall of the held heater grant that leaves the cap active has set the
cap-seen flag; only a ZC period sets it otherwise (log 34, the model's inference); and only a ZC period, whose stage 4 renews it
(DriveAndDemand says how), or a reset clears it. -/
def Obligations.PowerWithinHeldGrant : Prop :=
  (∀ s t : State, s.StartCoherent → s.DemandCurrent → step s = .next t →
    t.DemandCurrent ∧ t.appliedPower ≤ t.bu.heldHeater * 1000) ∧
  (∀ (c : Instr) (s t : State), exec c s = .next t →
    (t.bu.heldHeater < s.bu.heldHeater → t.bu.heldHeater * 1000 < t.zc.demand → t.zc.capSeen = true) ∧
    (s.zc.capSeen = false → t.zc.capSeen = true → c = .zcPeriod ∨
      t.bu.heldHeater < s.bu.heldHeater ∧ t.bu.heldHeater * 1000 < t.zc.demand) ∧
    (s.zc.capSeen = true → t.zc.capSeen = false → c = .zcPeriod ∨ c = .powerOnReset ∨ c = .warmReset))

/-- The boat's positions and targets stay within the boat's range, its gate away from CLOSED only while LOADCLR is asserted, and
its pulse interval timer running exactly while pulsing is allowed. Whatever command makes pulsing allowed, the timer then stands at 0. -/
def Obligations.BoatDriveKept : Prop :=
  (∀ s t : State, s.StartCoherent → s.BoatInRange → s.GateFollows → s.PulseTimerFollows → step s = .next t →
    t.BoatInRange ∧ t.GateFollows ∧ t.PulseTimerFollows) ∧
  (∀ (c : Instr) (s t : State), exec c s = .next t → s.pulsing = false → t.pulsing = true → t.bd.pulse = some 0)

/-- The peer view keeps sound entries of distinct peer stations, by rising station number, and so never more than 7 of them. -/
def Obligations.ViewSoundKept : Prop :=
  ∀ s t : State, s.StartCoherent → s.ViewSound → step s = .next t → t.ViewSound ∧ t.bu.view.length ≤ 7

/-- A held grant rises only at the completion of an ANNOUNCE, and then at most to the smaller of what that frame carried and the
computed grant at that moment. -/
def Obligations.GrantRisesOnlyAtCompletion : Prop :=
  ∀ (c : Instr) (s t : State), exec c s = .next t →
    (s.bu.heldHeater < t.bu.heldHeater → c = .transmitCompletion ∧
      ∃ b replaced, s.bl.attempt = some ⟨.announce b, replaced⟩ ∧
        t.bu.heldHeater ≤ b.heaterHeld.toNat ∧ t.bu.heldHeater ≤ s.computedGrant .heater) ∧
    (s.bu.heldPurge < t.bu.heldPurge → c = .transmitCompletion ∧
      ∃ b replaced, s.bl.attempt = some ⟨.announce b, replaced⟩ ∧
        t.bu.heldPurge ≤ b.purgeHeld.toNat ∧ t.bu.heldPurge ≤ s.computedGrant .purge)

/-- No setpoint and no target exceeds the zone temperature limit. -/
def Obligations.SetpointsWithinLimitKept : Prop :=
  ∀ s t : State, s.StartCoherent → s.SetpointsWithinLimit → step s = .next t → t.SetpointsWithinLimit

/-- Queues, counts and the staging image keep their sizes. -/
def Obligations.WithinRangesKept : Prop :=
  ∀ s t : State, s.WithinRanges → step s = .next t → t.WithinRanges

/-- The run state and what RS holds beside it stay in agreement. -/
def Obligations.RunCoherentKept : Prop :=
  ∀ s t : State, s.RunCoherent → step s = .next t → t.RunCoherent

/-- In RUNNING no step stays current whose conditions all hold. -/
def Obligations.StepOpenKept : Prop :=
  ∀ s t : State, s.StartCoherent → s.StepOpen → step s = .next t → t.StepOpen

/-- The small records keep their form: MUTE and the abandon count, the busy line of an attempt, an abort order that waits (log 35),
the input slot, the outbound queue, the two sets, the collection, the abort purge. -/
def Obligations.FormKeptKept : Prop :=
  ∀ s t : State, s.StartCoherent → s.FormKept → step s = .next t → t.FormKept

/-! ### Whole-machine statements: what changes what -/

/-- No boat pulse is driven but by STEP_PULSE in MOVING, which needs an OPEN gate, and so LOADCLR asserted. Either reset sets the
model's count of pulses back. -/
def Obligations.PulsesOnlyWhileMoving : Prop :=
  ∀ (c : Instr) (s t : State), s.GateFollows → exec c s = .next t → t.bd.pulses ≠ s.bd.pulses →
    c = .powerOnReset ∨ c = .warmReset ∨
    c = .stepPulse ∧ t.bd.pulses = s.bd.pulses + 1 ∧ s.motion = .moving ∧ s.bd.gate = .opened ∧ s.pins.loadclr = true

/-- Once filled, the first-fault record and the next-fault record are unchanged until a power-on reset or an accepted
FAULT-CLEAR. -/
def Obligations.FaultRecordsStand : Prop :=
  ∀ (c : Instr) (s t : State), exec c s = .next t →
    (∃ r, s.fl.first = some r ∧ t.fl.first ≠ some r ∨ s.fl.next = some r ∧ t.fl.next ≠ some r) →
    c = .powerOnReset ∨ (s.lp.reply = none ∨ c = .replyEnd) ∧ t.lp.reply = some ⟨0x10, .ok, []⟩

/-- What alone takes the run out of IDLE, HELD and ABORTING. IDLE: a RUN-START that this command served, with no FAULT-PENDING and
a record queued. HELD to RUNNING or STARVED: RUN-RESUME. HELD to ABORTING: RUN-ABORT, or an abort order, given by a sample (OVERTEMP),
Z3's hold timer (ZONE-LOST), a BD evaluation (BOAT-SLIP), or one that waited for this command (log 35). HELD to IDLE: one of these
with an abort that ends at once or a resumed step that completes, or a reset. ABORTING ends only in IDLE: by a reset, the running
abort timer's end, or a GC period with the abort purge in progress whose accumulator reaches its target. -/
def Obligations.RunStateChanges : Prop :=
  ∀ (c : Instr) (s t : State), exec c s = .next t →
    let served := fun kind : Byte => (s.lp.reply = none ∨ c = .replyEnd) ∧ t.lp.reply = some ⟨kind, .ok, []⟩
    let ordered : Prop := (∃ b1 b2 b3 b4, c = .sampleRecord b1 b2 b3 b4) ∨ c = .holdTimerExpiry .z3 ∨ c = .bdEvaluation ∨
      s.rs.abortOrdered = true ∧ meetsOrder c = true
    let reset : Prop := c = .powerOnReset ∨ c = .warmReset ∧ s.resetHeld = none
    let count := if (s.line .purge).valid then (s.line .purge).lastGood.getD 0 else 0
    (s.rs.run = .idle → t.rs.run ≠ .idle →
      served 0x22 ∧ s.released = true ∧ s.fl.pending = false ∧ s.rs.queue ≠ []) ∧
    (s.rs.run = .held → t.rs.run = .running ∨ t.rs.run = .starved → served 0x24) ∧
    (s.rs.run = .held → t.rs.run = .aborting → served 0x25 ∨ ordered) ∧
    (s.rs.run = .held → t.rs.run = .idle → served 0x25 ∨ served 0x24 ∨ ordered ∨ reset) ∧
    (s.rs.run = .aborting → t.rs.run = .aborting ∨ t.rs.run = .idle) ∧
    (s.rs.run = .aborting → t.rs.run = .idle → reset ∨ c = .abortTimeout ∧ s.rs.abortTimer.active = true ∨
      c = .gcPeriod ∧ s.gc.abortPurge = true ∧
        s.image.abortPurgeRequirement * s.image.tubeVolume * 120 ≤ min 4294967295 (s.gc.acc + count))

/-- A line whose applied flow has changed is in the outbound queue, unless a reset has stopped the part. -/
def Obligations.FlowChangeQueues : Prop :=
  ∀ (c : Instr) (s t : State) (l : GasLine), s.StartCoherent → exec c s = .next t → t.released = true →
    s.appliedFlow l ≠ t.appliedFlow l → l ∈ t.gc.queue

/-- An entry to HELD, STARVED or IDLE, a new current step, a fault counted, an entry to GATED, a change of the level in force or of
the link state reported, and the release each leave their event in the pending set, resets apart. And a pending kind stays pending
until an EVENT-READ is served, by this command, or a reset. -/
def Obligations.EventsTellChanges : Prop :=
  ∀ (c : Instr) (s t : State), s.StartCoherent → exec c s = .next t → c ≠ .powerOnReset → c ≠ .warmReset →
    (t.rs.run = .held → s.rs.run ≠ .held → .held ∈ t.lp.events) ∧
    (t.rs.run = .starved → s.rs.run ≠ .starved → s.rs.run ≠ .held → .starved ∈ t.lp.events) ∧
    (t.rs.run = .idle → s.rs.run ≠ .idle → .runEnded ∈ t.lp.events) ∧
    (t.rs.current ≠ s.rs.current → t.rs.current.isSome → .stepStarted ∈ t.lp.events) ∧
    (s.fl.count < t.fl.count → .fault ∈ t.lp.events) ∧
    (t.motion = .gated → s.motion ≠ .gated → .boatGated ∈ t.lp.events) ∧
    (t.bu.level ≠ s.bu.level → .curtail ∈ t.lp.events) ∧
    (t.linkState ≠ s.linkState → s.linkState ≠ .inactive → .link ∈ t.lp.events) ∧
    (t.released = true → s.released = false → .ready ∈ t.lp.events) ∧
    (∀ k ∈ s.lp.events, k ∈ t.lp.events ∨
      (s.lp.reply = none ∨ c = .replyEnd) ∧ ∃ body, t.lp.reply = some ⟨0x04, .ok, body⟩)

/-! ### Local port -/

/-- The five read requests, served at once: the reply carries the body assembled at that moment. All but EVENT-READ change nothing
else; EVENT-READ empties the pending event set of what it returned. And the bodies, byte for byte: EVENT-READ's mask has bit n for
the nth kind, then the context; FAULT-READ's two records of 17 bytes, its mask, count and flag; and the fields of STATUS-READ,
ZONE-READ and VIEW-READ in their rules' order. The encodings that R197 leaves open are the model's choice (log 17), and so are
what stands before READY (log 37), an applied speed in every motion state with a target outstanding (log 40), and what timers that
have run out read (log 42). -/
def Obligations.ReadRequestsAnswer : Prop :=
  (∀ s : State, s.portReady →
    exec (.statusRead []) s = .next (s.answered ⟨0x01, .ok, statusBody s⟩) ∧
    exec (.faultRead []) s = .next (s.answered ⟨0x05, .ok, faultBody s⟩) ∧
    exec (.eventRead []) s =
      .next ({ s with lp := { s.lp with events := [] } }.answered ⟨0x04, .ok, eventBody s⟩) ∧
    (s.released = true →
      exec (.zoneRead []) s = .next (s.answered ⟨0x02, .ok, zonesBody s⟩) ∧
      exec (.viewRead []) s = .next (s.answered ⟨0x03, .ok, viewBody s⟩))) ∧
  (let u1 := fun n : Nat => [BitVec.ofNat 8 n]
   let u2 := fun n : Nat => [BitVec.ofNat 8 (n / 256), BitVec.ofNat 8 n]
   let u4 := fun n : Nat => u2 (n / 65536) ++ u2 n
   let i2 := fun v : Int => u2 (BitVec.ofInt 16 v).toNat
   let flag := fun b : Bool => u1 (if b then 1 else 0)
   let opt := fun (w : Nat) (o : Option (List Byte)) => match o with
     | some bytes => (1 : Byte) :: bytes
     | none => List.replicate (w + 1) 0
   let o1 := fun o : Option Nat => opt 1 (o.map u1)
   let o2 := fun o : Option Nat => opt 2 (o.map u2)
   let age := fun o : Option Nat => u2 (min 65535 (o.getD 65535))
   let left := fun t : Timer => match t with
     | .stopped => ([0xFF, 0xFF] : List Byte)
     | .running n => u2 n
     | .expired => [0, 0]
   let stations := fun ns : List Nat => (ns.map fun n => 2 ^ (n - 1)).sum
   let record := fun o : Option FaultRecord => match o with
     | none => List.replicate 17 (0 : Byte)
     | some r => u1 (FaultKind.all.idxOf r.kind + 1) ++
         u1 (match r.cls with
           | .note => 0
           | .hold => 1
           | .abort => 2) ++
         (match r.subject with
           | .none => [0, 0]
           | .zone z => u1 (z.index + 1) ++ [0]
           | .channel z k => u1 (z.index + 1) ++ [if k = ChannelKind.profile then 0 else 1]
           | .line l => u1 (GasLine.all.idxOf l) ++ [0]
           | .station n => u1 n ++ [0]
           | .stations ns => u1 (stations ns) ++ [0]) ++
         o2 r.label ++ opt 4 (r.runTime.map u4) ++
         opt 4 (match r.value with
           | .absent => none
           | .number v => some (u4 (BitVec.ofInt 32 v).toNat)
           | .stations ns => some (u4 (stations ns))
           | .check c => some (u4 (if c = ImageCheck.signature then 0 else 1)))
   (∀ s : State,
     (∃ mask summary, eventBody s = u2 mask ++ o2 (s.rs.current.map (·.label)) ++ o2 s.rs.lastLabel ++ u2 s.rs.done ++
         u1 s.rs.discarded ++ u1 s.linkState.code ++ u1 s.bu.level.percent ∧
       faultBody s = record s.fl.first ++ record s.fl.next ++ u2 summary ++ u1 s.fl.count ++ flag s.fl.pending ∧
       (s.lp.events.Sublist EventKind.all → mask < 2048 ∧
         ∀ n k, EventKind.all[n]? = some k → (mask.testBit n = true ↔ k ∈ s.lp.events)) ∧
       (s.fl.summary.Sublist FaultKind.all → summary < 16384 ∧
         ∀ n k, FaultKind.all[n]? = some k → (summary.testBit n = true ↔ k ∈ s.fl.summary)) ∧
       statusBody s =
         -- start-up
         (u1 s.cl.startup.code ++ u1 (if s.cl.cfgsrc = .memory then 0 else 1) ++ o1 (s.cl.image.map (·.station)) ++
           flag (s.cl.image.any (·.fromStraps)) ++ flag s.cl.clamped ++ u2 s.fuses.ceiling.limit ++ flag s.fuses.oxidant ++
           o2 (s.cl.image.map (·.zoneLimit)) ++ opt 1 (s.cl.image.map fun i => flag i.oxidantDisabled)) ++
         -- run
         (u1 s.rs.run.code ++ o1 (s.rs.prior.map PriorState.code) ++ u1 s.rs.queue.length ++
           o2 (s.rs.current.map (·.label)) ++ o2 s.rs.labelInForce ++ o2 s.rs.lastLabel ++ u2 s.rs.done ++
           u1 s.rs.discarded ++ u4 s.rs.clock) ++
         -- zones
         (u2 s.zm.checkErrors ++ u2 s.zm.ignored ++ Zone.all.flatMap fun z => u1 (s.zoneM z).state.code) ++
         -- heat
         (o1 s.zc.rate ++ o2 s.zc.band ++ flag s.zc.rampWait ++ flag s.zc.frozen ++ flag s.capActive ++ u4 s.zc.demand ++
           u2 s.zc.want ++ u2 s.zc.floor ++ flag s.thermalSettled ++ (match s.zc.settle with
             | some e => u4 e
             | none => [0xFF, 0xFF, 0xFF, 0xFF])) ++
         -- gas
         ((GasLine.all.flatMap fun l => u2 (s.line l).commanded ++ u2 (s.appliedFlow l) ++ u1 (s.line l).status.code ++
           o2 (s.line l).lastGood ++ age (s.line l).age ++ flag (s.line l).deviates ++ (match (s.line l).devTimer with
             | some e => u2 e
             | none => [0xFF, 0xFF]) ++ flag (s.line l).latch) ++
           u4 s.gc.acc ++ o1 s.gc.requirement ++
           opt 4 (s.gc.requirement.map fun x => u4 (x * s.image.tubeVolume * 120)) ++ flag s.purgeDone ++
           flag s.oxidantPermit ++ flag (s.released && s.pins.sealed) ++ flag s.boatFullIn ++
           flag (s.released && !s.image.oxidantDisabled) ++
           u2 (min (s.line .purge).commanded s.image.bleedFloor) ++ u2 (s.line .purge).commanded) ++
         -- boat
         (u2 s.bd.e ++ u2 s.bd.c ++ u1 s.motion.code ++
           opt 6 (s.bd.move.map fun m => u2 m.target ++ u2 m.speed ++ u2 m.droop) ++ u1 s.bd.factor.quarters ++
           o2 s.appliedSpeed ++ opt 2 (s.bd.droop.map i2) ++ u1 s.bd.gate.code ++ left s.bd.reclear ++
           flag s.bd.referenced ++ (s.bd.marks.flatMap fun m => u2 m.position ++ u1 m.direction.code) ++
           opt 6 (s.bd.lastMark.map fun m => u2 m.position ++ u1 m.direction.code ++ i2 m.diff ++ u1 m.action.code)) ++
         -- shares
         (u2 s.bu.heldHeater ++ u2 s.bu.heldPurge ++ u1 s.rank ++ u1 (s.bu.view.countP (!·.stale)) ++
           u1 (s.bu.view.countP (·.stale))) ++
         -- curtailment
         (u1 s.bu.level.percent ++ flag s.image.curtailSource ++
           opt 4 (if s.image.curtailSource then
             some (u1 s.inputLevel.percent ++ u1 s.bu.debounced.percent ++ left s.bu.debounce) else none) ++
           opt 4 (s.bu.collection.map fun c => u1 c.level.percent ++ u1 (stations c.expected) ++ left c.timer) ++
           flag s.bu.frameHeard) ++
         -- link
         (u1 s.linkState.code ++ left s.bl.listen ++ left s.bl.silence ++ left s.bl.muteTimer ++ u1 s.bl.abandons ++
           u2 s.bl.rxErrors ++ o1 (s.bl.curtailSlot.map Level.percent) ++
           opt 2 (s.bl.ackSlot.map fun a => u1 a.level.percent ++ u1 a.origin) ++ flag s.bl.announceSlot ++
           o1 (s.bl.attempt.map fun a => a.frame.index)) ++
         -- faults, port
         (flag s.fl.pending ++ u1 s.fl.count) ++ (u2 s.lp.lineErrors ++ u2 s.lp.overruns ++ u2 mask)) ∧
     (let channel := fun c : Channel => u1 c.status.code ++ opt 2 (c.lastGood.map i2) ++ age c.age
      zonesBody s = Zone.all.flatMap fun z =>
        u1 (s.zoneM z).state.code ++ opt 2 ((s.zoneM z).measured.map i2) ++ i2 (s.zoneM z).offset ++
        opt 2 ((s.zoneM z).lastMeasured.map i2) ++ channel (s.zoneM z).profile ++ channel (s.zoneM z).spike ++
        o2 (s.zoneC z).target ++ o2 (if s.used z then (s.zoneC z).spi.map (· / 120) else none) ++
        u2 ((s.zoneC z).ia / 256) ++ u2 (s.zoneC z).draw ++ u2 (s.appliedDrive z)) ∧
     (let supply := fun p : Supply =>
        u2 (s.ownDemand p).floor ++ u2 (s.ownDemand p).want ++ u2 (s.beff p) ++ u2 (s.computedGrant p) ++
        u2 (s.heldGrant p) ++ flag s.bl.isolated ++
        (let floors := (s.ownDemand p).floor + ((s.peersCounted p).map (·.floor)).sum
         if s.bl.isolated then o2 none ++ o1 none
         else o2 (some floors) ++ o1 (some (if s.beff p = 0 then 1 else if s.beff p ≤ floors then 2 else 3)))
      viewBody s = (s.bu.view.flatMap fun e => u1 e.station ++ u2 e.heater.floor ++ u2 e.heater.want ++ u2 e.heater.held ++
        u2 e.purge.floor ++ u2 e.purge.want ++ u2 e.purge.held ++ u1 e.rank ++ u1 e.summary.code ++ u1 e.level.percent ++
        u2 e.age ++ flag e.stale) ++ supply .heater ++ supply .purge ++ u1 s.rank ++ u1 s.bu.level.percent ++
        u2 s.bu.contentErrors ++ flag s.bl.announceSlot)) ∧
   (∀ (t : Startup) (z : ZoneState) (k : LinkState) (m : Motion) (g : Gate) (x : SampleStatus) (r : RunState),
     [Startup.loading, .portWait, .notConfigured, .joining, .ready][t.code]? = some t ∧
     [ZoneState.normal, .degraded, .lostHold, .lost, .overtemp, .unused][z.code]? = some z ∧
     [LinkState.inactive, .joining, .normal, .isolated, .mute, .isolatedMute][k.code]? = some k ∧
     [Motion.rest, .moving, .droopWait, .gated, .held][m.code]? = some m ∧
     [Gate.closed, .reclearing, .opened][g.code]? = some g ∧ [SampleStatus.ok, .opened, .range][x.code]? = some x ∧
     [RunState.idle, .running, .starved, .held, .aborting][r.code]? = some r))

/-- The checks LP makes itself: an unknown kind, a request that is not served before the release, a fixed body length that does
not agree. Each is answered with its code and changes nothing else (no abort order waiting, log 35: FaultTaken says what one
adds). -/
def Obligations.RequestsTurnedAway : Prop :=
  ∀ s : State, s.portReady → s.rs.abortOrdered = false →
    (∀ kind body, (Instr.unknownKindRequest kind body).wf = true →
      exec (.unknownKindRequest kind body) s = .next (s.answered ⟨kind, .badFormat, []⟩)) ∧
    (∀ (r : Request) body, s.released = false → body.length ≤ 44 →
      r ∉ [.statusRead, .eventRead, .faultRead, .configWrite, .configDone] →
      exec (r.command body) s = .next (s.answered ⟨r.kind, .notConfigured, []⟩)) ∧
    (∀ (r : Request) body n, s.released = true ∨ r ∈ [.statusRead, .eventRead, .faultRead, .configDone] → body.length ≤ 44 →
      r.fixedLength = some n → body.length ≠ n →
      exec (r.command body) s = .next (s.answered ⟨r.kind, .badFormat, []⟩))

/-- The input slot: an entry offered with no reply in progress is served at once, with one it waits in an empty slot, and a full
slot discards it and counts an overrun. At the end of a reply the waiting entry is served. A whole request frame offers its
request; a frame with a bad check offers a BAD-CHECK entry; a line error is counted and offers a REJECT entry. Every character, in
each state of the receiver: ignored in SKIPPING, ignored in HUNTING but for a start byte, taken into the frame in IN-FRAME, whatever
its value, until the frame is complete or ends in a line error; a gap in IN-FRAME is a line error. A character is a framing error
where its stop bit is 0, and otherwise a good byte exactly where its parity is even; a reply goes out in such characters, and LPTX
idles at 1. No abort order waits where a command could overtake it (log 35: FaultTaken says what one adds). -/
def Obligations.InputSlotTable : Prop :=
  ∀ s : State,
    (∀ e, s.lp.reply = none → offerEntry e s = serveEntry e s) ∧
    (∀ e, s.lp.reply.isSome → s.lp.slot = none → offerEntry e s = { s with lp := { s.lp with slot := some e } }) ∧
    (∀ e, s.lp.reply.isSome → s.lp.slot.isSome →
      offerEntry e s = { s with lp := { s.lp with overruns := satSucc 65535 s.lp.overruns } }) ∧
    (s.rs.abortOrdered = false → s.lp.reply = none → exec .replyEnd s = .next s) ∧
    (s.rs.abortOrdered = false → s.lp.reply.isSome → s.lp.slot = none →
      exec .replyEnd s = .next { s with lp := { s.lp with reply := none, replyTimer := .stopped } }) ∧
    (∀ e, s.rs.abortOrdered = false → s.lp.reply.isSome → s.lp.slot = some e →
      exec .replyEnd s =
        .next (serveEntry e { s with lp := { s.lp with reply := none, replyTimer := .stopped, slot := none } })) ∧
    (∀ kind, serveEntry (.badCheck kind) s = sendReply ⟨kind, .badCheck, []⟩ s) ∧
    serveEntry .reject s = sendReply ⟨0, .reject, [0x01]⟩ s ∧
    (s.lp.rx = .hunting →
      (∀ (r : Request) body, body.length ≤ 44 → r = .faultClear ∨ r = .runResume → s.rs.abortOrdered = false →
        exec (r.command body) s = .next (offerEntry (.request r.kind body) s.heard)) ∧
      (∀ (r : Request) body, body.length ≤ 44 → r ≠ .faultClear → r ≠ .runResume →
        exec (r.command body) s = .next (offerEntry (.request r.kind body) s.heard)) ∧
      (∀ kind body check, (Instr.badCheckFrame kind body check).wf = true →
        exec (.badCheckFrame kind body check) s = .next (offerEntry (.badCheck kind) s.heard)) ∧
      (∀ chars, (Instr.lineError chars).wf = true →
        exec (.lineError chars) s = .next (offerEntry .reject { s with lp := { s.lp with
          rx := .skipping, gap := 0, lineErrors := satSucc 65535 s.lp.lineErrors } })) ∧
      (∀ chars, (Instr.lpGapTimeout chars).wf = true → chars ≠ [] → s.resetHeld = none →
        exec (.lpGapTimeout chars) s = .next (offerEntry .reject { s with lp := { s.lp with
          rx := .hunting, gap := 0, lineErrors := satSucc 65535 s.lp.lineErrors } }))) ∧
    (s.lp.rx = .skipping → s.resetHeld = none →
      exec (.lpGapTimeout []) s = .next { s with lp := { s.lp with rx := .hunting } }) ∧
    (
      let ended := fun rx : LpReceiver => offerEntry .reject { s with lp := { s.lp with
        rx := rx, gap := 0, lineErrors := satSucc 65535 s.lp.lineErrors } }
      (∀ got, s.lp.rx = .inFrame got → s.resetHeld = none → exec (.lpGapTimeout []) s = .next (offerEntry .reject
        { s with lp := { s.lp with rx := .hunting, lineErrors := satSucc 65535 s.lp.lineErrors } })) ∧
      (s.lp.rx = .skipping → ∀ c cs, receiveChars (c :: cs) s = s.heard) ∧
      (s.lp.rx = .hunting → ∀ c,
        (c.result = .good 0xA8 → receiveChars [c] s = { s with lp := { s.lp with rx := .inFrame [], gap := 0 } }) ∧
        (c.result ≠ .good 0xA8 → receiveChars [c] s = s.heard)) ∧
      (∀ got, s.lp.rx = .inFrame got → ∀ c,
        ((∀ b, c.result ≠ .good b) → receiveChars [c] s = ended .skipping) ∧
        (∀ b, c.result = .good b → got = [] →
          (2 ≤ b.toNat → b.toNat ≤ 46 →
            receiveChars [c] s = { s with lp := { s.lp with rx := .inFrame [b], gap := 0 } }) ∧
          (b.toNat < 2 ∨ 46 < b.toNat → receiveChars [c] s = ended .skipping)) ∧
        (∀ b len rest, c.result = .good b → got = len :: rest →
          (rest.length + 1 < len.toNat →
            receiveChars [c] s = { s with lp := { s.lp with rx := .inFrame (got ++ [b]), gap := 0 } }) ∧
          (∀ kind body, rest.length + 1 = len.toNat → rest = kind :: body →
            receiveChars [c] s = offerEntry
              (if len + kind + byteSum body + b = 0 then .request kind body else .badCheck kind)
              { s with lp := { s.lp with rx := .hunting, gap := 0 } }))) ∧
      (∀ cs ds, receiveChars (cs ++ ds) s = receiveChars ds (receiveChars cs s)) ∧
      (∀ cs, exec (.lineError cs) s = .next (receiveChars cs s)) ∧
      (∀ kind body check, exec (.badCheckFrame kind body check) s = .next (receiveChars
        (LpChar.good 0xA8 :: .good (BitVec.ofNat 8 (body.length + 2)) :: .good kind :: (body.map .good ++ [.good check])) s))) ∧
    (∀ c : LpChar,
      let ones := (((List.range 8).map c.data.getLsbD ++ [c.parity]).filter id).length
      (c.stop = false → c.result = .framingError) ∧
      (c.stop = true → ones % 2 = 1 → c.result = .parityError) ∧
      (c.stop = true → ones % 2 = 0 → c.result = .good c.data)) ∧
    (s.lp.reply = none → ∀ n, s.lptxLevel n = true) ∧
    (∀ r, s.lp.reply = some r →
      (∀ n, 11 * r.bytes.length ≤ n → s.lptxLevel n = true) ∧
      (∀ i, i < r.bytes.length →
        let level := fun j => s.lptxLevel (11 * i + j)
        level 0 = false ∧ level 10 = true ∧ (∀ j, j < 8 → level (j + 1) = (byteAt r.bytes i).getLsbD j) ∧
        (((List.range 9).map fun j => level (j + 1)).filter id).length % 2 = 0))

/-! ### Configuration -/

/-- CONFIG-WRITE: refused with STATE outside PORT-WAIT and NOT-CONFIGURED, with BAD-FORMAT where the body does not fit the image,
and otherwise the data bytes stand in the staging image from the offset onward, every other byte as it was. -/
def Obligations.ConfigWriteStages : Prop :=
  ∀ (s : State) (body : List Byte), s.portReady → body.length ≤ 44 →
    (s.cl.startup ≠ .portWait → s.cl.startup ≠ .notConfigured →
      exec (.configWrite body) s = .next (s.answered ⟨0x40, .state, []⟩)) ∧
    (s.cl.startup = .portWait ∨ s.cl.startup = .notConfigured →
      (body.length < 2 ∨ 64 < at1 body 0 + (body.length - 1) →
        exec (.configWrite body) s = .next (s.answered ⟨0x40, .badFormat, []⟩)) ∧
      (2 ≤ body.length → at1 body 0 + (body.length - 1) ≤ 64 → s.cl.staging.length = 64 →
        ∃ staging, exec (.configWrite body) s =
            .next ({ s with cl := { s.cl with staging := staging } }.answered ⟨0x40, .ok, []⟩) ∧
          staging.length = 64 ∧
          (∀ i, i + 1 < body.length → byteAt staging (at1 body 0 + i) = byteAt body (i + 1)) ∧
          (∀ i, i < at1 body 0 ∨ at1 body 0 + (body.length - 1) ≤ i → byteAt staging i = byteAt s.cl.staging i)))

/-- The staging image is validated by signature and then by sum: passing both releases the part, and the first check that fails
gives NOT-CONFIGURED with CONFIG-DEFAULT in the log. So ends the read of the serial memory, and so does CONFIG-DONE, which
answers OK, OK-CLAMPED or BAD-FORMAT, and STATE where no configuration is taken. SMCS is low and SMCK driven exactly during the
read, which sends 0x03 and 0x00 most significant bit first, takes 528 clocks and samples SMDI at the rising edge of the last 512; at its
end both are released. That a clock is low and then high, in halves, is the model's (log 43). -/
def Obligations.StagingValidated : Prop :=
  (∀ (s : State) (bytes : List Byte), s.StartCoherent → s.cl.startup = .loading → s.resetHeld = none →
    s.cl.cfgsrc = .memory → bytes.length = 64 →
      (byteAt bytes 0 = 0xC3 ∧ byteSum bytes = 0 →
        exec (.serialMemoryReadEnd bytes) s = .next (release { s with cl := { s.cl with staging := bytes } })) ∧
      (∀ k, imageFault bytes = some k → exec (.serialMemoryReadEnd bytes) s = .next { s with
        cl := { s.cl with staging := bytes, startup := .notConfigured }
        fl := placeFault ⟨.configDefault, .note, .none, none, none, .check k⟩ s.fl
        lp := { s.lp with events := addEvent .fault s.lp.events } })) ∧
  (∀ s : State, s.StartCoherent → s.portReady →
    (s.cl.startup ≠ .portWait → s.cl.startup ≠ .notConfigured →
      exec (.configDone []) s = .next (s.answered ⟨0x41, .state, []⟩)) ∧
    (s.cl.startup = .portWait ∨ s.cl.startup = .notConfigured →
      (imageFault s.cl.staging = none → exec (.configDone []) s = .next (sendReply
        ⟨0x41, if imageClamped s.cl.staging s.cl.addr s.fuses then .okClamped else .ok, []⟩ (release s.heard))) ∧
      (∀ k, imageFault s.cl.staging = some k → exec (.configDone []) s = .next ({ s with
        cl := { s.cl with startup := .notConfigured }
        fl := placeFault ⟨.configDefault, .note, .none, none, none, .check k⟩ s.fl
        lp := { s.lp with events := addEvent .fault s.lp.events } }.answered ⟨0x41, .badFormat, []⟩)))) ∧
  (∀ bytes : List Byte,
    (byteAt bytes 0 ≠ 0xC3 → imageFault bytes = some .signature) ∧
    (byteAt bytes 0 = 0xC3 → byteSum bytes ≠ 0 → imageFault bytes = some .sum) ∧
    (byteAt bytes 0 = 0xC3 → byteSum bytes = 0 → imageFault bytes = none)) ∧
  (∀ s : State, s.smcsLow = true ↔ s.cl.startup = .loading ∧ s.resetHeld = none ∧ s.cl.cfgsrc = .memory) ∧
  (∀ (s t : State) (bytes : List Byte), exec (.serialMemoryReadEnd bytes) s = .next t → t.smcsLow = false) ∧
  memoryOut = [false, false, false, false, false, false, true, true] ++ List.replicate 8 false ∧ memoryClocks = 528 ∧
  (∀ s : State,
    let reading : Prop := s.cl.startup = .loading ∧ s.resetHeld = none ∧ s.cl.cfgsrc = .memory
    (s.smckDriven = true ↔ reading) ∧
    (¬ reading → ∀ half, s.smck half = none ∧ s.smdo half = none) ∧
    (reading → (∀ n, n < 528 → s.smck (2 * n) = some false ∧ s.smck (2 * n + 1) = some true) ∧
      (∀ half, 1056 ≤ half → s.smck half = none) ∧
      ∀ n, n < 16 → s.smdo (2 * n) = memoryOut[n]? ∧ s.smdo (2 * n + 1) = memoryOut[n]?)) ∧
  (∀ (s t : State) (bytes : List Byte), exec (.serialMemoryReadEnd bytes) s = .next t → ∀ half, t.smck half = none) ∧
  (∀ (bytes : List Byte) (smdi : Nat → Bool), bytes.length = 64 →
    (∀ i j, i < 64 → j < 8 → smdi (2 * (16 + 8 * i + j) + 1) = (byteAt bytes i).getLsbD (7 - j)) → memoryRead smdi = bytes) ∧
  (∀ bytes : List Byte, memoryIn (bytes.flatMap fun b => [7, 6, 5, 4, 3, 2, 1, 0].map b.getLsbD) = bytes)

/-- The release, as one action: the image in force, JOINING, READY raised, and every block in operation from the image, with no
power and no purge flow granted yet. That the first periods begin at once (log 2), that the hand-overs of the release are followed by
one reaction (log 27), and that the idle count starts at 0 (log 10) are the model's. -/
def Obligations.ReleaseBegins : Prop :=
  ∀ s : State, s.StartCoherent → s.released = false →
    let img := applyImage s.cl.staging s.cl.addr s.fuses
    let t := release s
    t.withoutReactions = { s with
      cl := { s.cl with
        startup := .joining
        image := some img
        clamped := imageClamped s.cl.staging s.cl.addr s.fuses }
      zm := { s.zm with
        zones := PerZone.build fun z =>
          if img.used.get z then { s.zoneM z with holdTimer := .running 10000 } else { s.zoneM z with state := .unused }
        phase := .running 0 }
      zc := { s.zc with
        zones := PerZone.build fun z => { s.zoneC z with
          target := if img.used.get z then some img.idleTemperature else none
          window := if z = Zone.z1 then .running 0 else .waiting (z.index * 200) }
        rate := some img.idleRate, band := some 0, settle := none, rampWait := false, phase := .running 0 }
      gc := { s.gc with
        lines := PerLine.build fun l => { s.line l with
          commanded := if l = GasLine.purge then img.bleedFloor else 0, latch := false, devTimer := none }
        requirement := none, abortPurge := false, phase := .running 0 }
      bd := { s.bd with
        gate := if s.pins.loadclr then .reclearing else .closed
        reclear := if s.pins.loadclr then .running 2000 else .stopped
        phase := .running 100 }
      bu := { s.bu with
        purge := ⟨img.bleedFloor, img.bleedFloor⟩
        debounce := if img.curtailSource ∧ s.inputLevel ≠ Level.l100 then .running 100 else .stopped }
      bl := { s.bl with
        phase := .joining
        listen := .running (2 * img.announcePeriod)
        silence := .running (5 * img.announcePeriod)
        line := .recessive 0 } }.withoutReactions ∧
    t.gc.queue = [.purge, .carrier, .oxidant] ∧ .ready ∈ t.lp.events ∧
    t.bu.heldHeater = 0 ∧ t.bu.heldPurge = 0 ∧ t.appliedPower = 0 ∧ t.appliedFlow .purge = 0

/-- The image in force, field by field: each is taken from its bytes of the staging image and clamped to the nearer end of its
range, the station from the straps where its field is 0, the announce period 1000 ms where its field is 0, Z3 used whatever its bit,
the zone limit the lower of the clamped ceiling and the fuse ceiling. And the clamped flag stays clear exactly where every field
that has a range lies within it and Z3's bit is set. -/
def Obligations.ImageWithinRanges : Prop :=
  ∀ (b : List Byte) (addr : BitVec 3) (fuses : Fuses),
    let i := applyImage b addr fuses
    let near := fun lo hi x : Nat => max lo (min hi x)
    let two := fun n : Nat => (byteAt b n).toNat * 256 + (byteAt b (n + 1)).toNat
    let one := fun n : Nat => (byteAt b n).toNat
    let ceiling := near 3000 13500 (two 25)
    let limit := min ceiling (if fuses.ceiling = .low then 12500 else 13500)
    let pIn := near 1000 20000 (two 40)
    i = {
      station := if one 1 = 0 then addr.toNat + 1 else min 8 (one 1)
      fromStraps := decide (one 1 = 0)
      bankSize := near 1 8 (one 2)
      curtailSource := (byteAt b 3).getLsbD 0
      oxidantDisabled := (byteAt b 3).getLsbD 1 || fuses.oxidant
      announcePeriod := if one 4 = 0 then 1000 else 10 * near 25 200 (one 4)
      heaterBudget := near 1 4000 (two 5)
      purgeBudget := near 1 2400 (two 7)
      used := PerZone.build fun z => (byteAt b 9).getLsbD z.index || decide (z = .z3)
      rating := PerZone.build fun z => near 10 120 (one (10 + z.index))
      kp := PerZone.build fun z => one (15 + z.index)
      ki := PerZone.build fun z => one (20 + z.index)
      ceiling := ceiling
      zoneLimit := limit
      idleTemperature := min limit (two 27)
      idleRate := near 1 250 (one 29)
      settleTime := min 600 (two 30)
      tubeVolume := near 10 400 (two 32)
      bleedFloor := min 50 (one 34)
      abortPurgeFlow := min 300 (two 35)
      abortPurgeRequirement := min 200 (one 37)
      abortTimeout := near 60 3600 (two 38)
      pIn := pIn
      pMouth := min (pIn - 1) (two 42)
      pRef := min (pIn - 1) (two 44)
      stallLimit := near 10 500 (two 46)
      slipLimit := near 5 200 (one 48)
      flowTolerance := near 1 20 (one 49) } ∧
    (1 ≤ i.station ∧ i.station ≤ 8 ∧ 250 ≤ i.announcePeriod ∧ i.announcePeriod ≤ 2000 ∧ i.pMouth < i.pIn ∧ i.pRef < i.pIn ∧
      i.zoneLimit ≤ 13500) ∧
    (imageClamped b addr fuses = false ↔
      one 1 ≤ 8 ∧ (1 ≤ one 2 ∧ one 2 ≤ 8) ∧ (one 4 = 0 ∨ 25 ≤ one 4 ∧ one 4 ≤ 200) ∧
      (1 ≤ two 5 ∧ two 5 ≤ 4000) ∧ (1 ≤ two 7 ∧ two 7 ≤ 2400) ∧ (byteAt b 9).getLsbD 2 = true ∧
      (∀ z : Zone, 10 ≤ one (10 + z.index) ∧ one (10 + z.index) ≤ 120) ∧
      (3000 ≤ two 25 ∧ two 25 ≤ 13500) ∧ two 27 ≤ limit ∧ (1 ≤ one 29 ∧ one 29 ≤ 250) ∧ two 30 ≤ 600 ∧
      (10 ≤ two 32 ∧ two 32 ≤ 400) ∧ one 34 ≤ 50 ∧ two 35 ≤ 300 ∧ one 37 ≤ 200 ∧ (60 ≤ two 38 ∧ two 38 ≤ 3600) ∧
      (1000 ≤ two 40 ∧ two 40 ≤ 20000) ∧ two 42 < pIn ∧ two 44 < pIn ∧
      (10 ≤ two 46 ∧ two 46 ≤ 500) ∧ (5 ≤ one 48 ∧ one 48 ≤ 200) ∧ (1 ≤ one 49 ∧ one 49 ≤ 20))

/-! ### Step records -/

/-- STEP-APPEND: NOT-CONFIGURED before the release, then the checks in their order, and the effect of an accepted record: it joins
the tail of the queue, and in STARVED it leaves the queue at once for a step start. A refusal changes nothing but the reply. The
format check is that of the body's length against the sizes of the parts its presence flags name. -/
def Obligations.StepAppendChecks : Prop :=
  (∀ body : List Byte, readStep body = none ↔ body.length ≠ 3 + (if (byteAt body 2).getLsbD 0 then 15 else 0) +
    (if (byteAt body 2).getLsbD 1 then 7 else 0) + (if (byteAt body 2).getLsbD 2 then 6 else 0) + 5) ∧
  ∀ (s : State) (body : List Byte), s.portReady → body.length ≤ 44 →
    (s.released = false → exec (.stepAppend body) s = .next (s.answered ⟨0x20, .notConfigured, []⟩)) ∧
    (s.released = true →
      (s.rs.run = .aborting → exec (.stepAppend body) s = .next (s.answered ⟨0x20, .state, []⟩)) ∧
      (s.rs.run ≠ .aborting →
        (readStep body = none → exec (.stepAppend body) s = .next (s.answered ⟨0x20, .badFormat, []⟩)) ∧
        ∀ raw, readStep body = some raw →
          (raw.conditions.purgeDone = true ∧ raw.gas = none →
            exec (.stepAppend body) s = .next (s.answered ⟨0x20, .badFormat, []⟩)) ∧
          (¬ (raw.conditions.purgeDone = true ∧ raw.gas = none) →
            (32 ≤ s.rs.queue.length → exec (.stepAppend body) s = .next (s.answered ⟨0x20, .queueFull, []⟩)) ∧
            (s.rs.queue.length < 32 →
              let code : ReplyCode := if stepClamped s.image raw then .okClamped else .ok
              (s.rs.run ≠ .starved → exec (.stepAppend body) s =
                .next ({ s with rs := { s.rs with queue := s.rs.queue ++ [storeStep s.image raw] } }.answered
                  ⟨0x20, code, []⟩)) ∧
              (s.rs.run = .starved → s.rs.queue = [] → exec (.stepAppend body) s =
                .next (sendReply ⟨0x20, code, []⟩ (stepStart (storeStep s.image raw) s.heard)))))))

/-- A record as RS keeps it: every field that has a range is clamped to it, every other field is as given; and the append is
OK-CLAMPED exactly where a clamp changed a field; that the offset and target of an unused zone do not count is the model's
inference (log 19). -/
def Obligations.StoredRecordClamps : Prop :=
  ∀ (img : Image) (raw : RawStep),
    let r := storeStep img raw
    (r.label = raw.label ∧ r.conditions = raw.conditions ∧ r.dwell = raw.dwell ∧ r.timeout = raw.timeout ∧ r.last = raw.last) ∧
    (r.thermal.isSome = raw.thermal.isSome ∧ r.gas.isSome = raw.gas.isSome ∧ r.boat.isSome = raw.boat.isSome) ∧
    (∀ p q, raw.thermal = some p → r.thermal = some q →
      q.rate = min 250 (max 1 p.rate) ∧ q.band = min 500 p.band ∧
      ∀ z, (q.targets.get z : Int) = min (img.zoneLimit : Int) (max 0 (p.centre + min 500 (max (-500) (p.offsets.get z))))) ∧
    (∀ p q, raw.gas = some p → r.gas = some q → q.requirement = min 200 p.requirement ∧
      q.flows = ⟨min 300 p.flows.purge, min 200 p.flows.carrier, min 150 p.flows.oxidant⟩) ∧
    (∀ p q, raw.boat = some p → r.boat = some q →
      q.target = min img.pIn p.target ∧ q.speed = min 600 (max 10 p.speed) ∧ q.droop = min 1000 p.droop) ∧
    (stepClamped img raw = false ↔
      (∀ p, raw.thermal = some p → 1 ≤ p.rate ∧ p.rate ≤ 250 ∧ p.band ≤ 500 ∧ ∀ z, img.used.get z = true →
        -500 ≤ p.offsets.get z ∧ p.offsets.get z ≤ 500 ∧ 0 ≤ p.centre + p.offsets.get z ∧
        p.centre + p.offsets.get z ≤ img.zoneLimit) ∧
      (∀ p, raw.gas = some p →
        p.flows.purge ≤ 300 ∧ p.flows.carrier ≤ 200 ∧ p.flows.oxidant ≤ 150 ∧ p.requirement ≤ 200) ∧
      (∀ p, raw.boat = some p → p.target ≤ img.pIn ∧ 10 ≤ p.speed ∧ p.speed ≤ 600 ∧ p.droop ≤ 1000))

/-- A step record body carries its record: what a tube computer writes by the layout is read back field for field, whatever stands
in the bits that are ignored; and a body is read exactly where its length is what its presence flags ask for. -/
def Obligations.StepRecordRoundTrip : Prop :=
  (∀ raw : RawStep, raw.fits = true → readStep raw.bytes = some raw) ∧
  (∀ body : List Byte, (readStep body).isSome ↔ body.length = 8 + (if (byteAt body 2).getLsbD 0 then 15 else 0) +
    (if (byteAt body 2).getLsbD 1 then 7 else 0) + (if (byteAt body 2).getLsbD 2 then 6 else 0)) ∧
  (∀ (body : List Byte) (flags cond : Byte), flags &&& 0x07 = 0 → cond &&& 0x8F = 0 → 8 ≤ body.length →
    readStep ((body.set 2 (byteAt body 2 ||| flags)).set (body.length - 5) (byteAt body (body.length - 5) ||| cond)) =
      readStep body)

/-! ### The run -/

/-- RUN-START: refused with NOT-CONFIGURED, STATE, FAULT-PENDING or EMPTY, in that order of checks, and otherwise a new run with a
step start of the head of the queue. FAULT-PENDING holds while the log has a kind that is not of note class in every case. That the
first second of the run clock begins here is the model's inference (log 28). -/
def Obligations.RunStartChecks : Prop :=
  (∀ f : FaultLog, f.pending = true ↔
    ∃ k : FaultKind, (f.first.map (·.kind) = some k ∨ f.next.map (·.kind) = some k ∨ k ∈ f.summary) ∧
      k ∉ [FaultKind.channelFailed, .addressClash, .linkMute, .curtailUnconfirmed, .abortIncomplete, .configDefault]) ∧
  ∀ s : State, s.portReady →
    (s.released = false → exec (.runStart []) s = .next (s.answered ⟨0x22, .notConfigured, []⟩)) ∧
    (s.released = true →
      (s.rs.run ≠ .idle → exec (.runStart []) s = .next (s.answered ⟨0x22, .state, []⟩)) ∧
      (s.rs.run = .idle →
        (s.fl.pending = true → exec (.runStart []) s = .next (s.answered ⟨0x22, .faultPending, []⟩)) ∧
        (s.fl.pending = false →
          (s.rs.queue = [] → exec (.runStart []) s = .next (s.answered ⟨0x22, .empty, []⟩)) ∧
          (∀ r rest, s.rs.queue = r :: rest → exec (.runStart []) s = .next (sendReply ⟨0x22, .ok, []⟩
            (stepStart r { s.heard with rs := { s.rs with
              queue := rest
              clock := 0, clockPhase := .running 1000, done := 0, discarded := 0, lastLabel := none
              thermal := none, gas := none } }))))))

/-- A step start as one action, whole: the record becomes current, its present parts are handed to ZC, GC and BD and its absent parts
leave theirs as they were, BU has GC's floor and want of a new PURGE flow, the accumulator is 0, the timers are armed, the latches
released and STEP-STARTED raised. Nothing else changes. That it makes a prior state of HELD absent is the model's inference (log 34),
and so is that the pulse interval timer restarts at every target taken (log 14). -/
def Obligations.StepStartHandsOut : Prop :=
  ∀ (r : StepRecord) (s : State),
    let t := startStep r s
    let arrived : Bool := r.boat.any fun m => decide (s.bd.c = m.target ∧ s.followingError.natAbs ≤ 5)
    t.withoutReactions = { s with
      rs := { s.rs with
        run := .running, prior := none, current := some r, labelInForce := some r.label
        thermal := r.thermal.or s.rs.thermal, gas := r.gas.or s.rs.gas
        dwell := ⟨.armed, 0, false⟩
        stepTimer := if r.timeout = 0 then .stopped else .running (r.timeout * 1000) }
      zc := match r.thermal with
        | some p => { s.zc with
            zones := PerZone.build fun z => { s.zoneC z with
              target := if s.used z then some (p.targets.get z) else none }
            rate := some p.rate, band := some p.band, settle := none }
        | none => s.zc
      gc := { s.gc with
        lines := PerLine.build fun l => { s.line l with
          commanded := match r.gas with
            | some p => p.flows.get l
            | none => (s.line l).commanded
          latch := false, devTimer := none }
        acc := 0
        requirement := match r.gas with
          | some p => some p.requirement
          | none => s.gc.requirement }
      bu := { s.bu with purge := match r.gas with
        | some p => ⟨min p.flows.purge s.image.bleedFloor, p.flows.purge⟩
        | none => s.bu.purge }
      bd := match r.boat with
        | some m => { s.bd with
            move := if arrived then none else some m
            bdir := if s.bd.c < m.target then true else if m.target < s.bd.c then false else s.bd.bdir
            factor := if s.bd.c < m.target ∧ 0 < m.droop then (droopRow false .full m.droop s.doorDroop).1 else .full
            droopWait := decide (s.bd.c < m.target ∧ 0 < m.droop) && (droopRow false .full m.droop s.doorDroop).2
            droop := if s.bd.c < m.target ∧ 0 < m.droop then some s.doorDroop else none }
        | none => s.bd }.withoutReactions ∧
    (arrived = true → t.motion = .rest ∧ t.bd.pulse = none ∧ .boatArrived ∈ t.lp.events) ∧
    (r.boat.isSome → t.bd.pulse = if t.pulsing then some 0 else none) ∧
    .stepStarted ∈ t.lp.events

/-- Completion: in RUNNING an armed dwell timer starts once every other selected condition holds, and where every condition of the
set holds the step is done; a LAST step ends the run, an empty queue starves it, and otherwise the head of the queue starts.
Outside RUNNING nothing is evaluated. And what the selected conditions are: THERMAL-SETTLED with the settle timer at the settle time,
BOAT-ARRIVED with the motion state REST, PURGE-DONE with the accumulator at the requirement. That the dwell timer of a completed step
stops with the elapsed time 0 is the model's choice (log 36). -/
def Obligations.CompletionEvaluated : Prop :=
  (∀ (s : State) (c : Conditions),
    (s.othersHold c = true ↔
      (c.thermalSettled = true → s.thermalSettled = true) ∧ (c.boatArrived = true → s.boatArrived = true) ∧
      (c.purgeDone = true → s.purgeDone = true)) ∧
    (s.thermalSettled = true ↔ s.zc.settle = some (s.image.settleTime * 1000)) ∧
    (s.boatArrived = true ↔ s.rs.run ≠ .held ∧ s.bd.move = none) ∧
    (s.purgeDone = true ↔ ∃ x, s.gc.requirement = some x ∧ x * s.image.tubeVolume * 120 ≤ s.gc.acc)) ∧
  ∀ s : State,
    (s.rs.run ≠ .running ∨ s.rs.current = none → evaluate s = s) ∧
    (∀ r, s.rs.run = .running → s.rs.current = some r →
      let dwell : Dwell :=
        if r.conditions.dwell then
          match s.rs.dwell.phase with
          | .armed =>
            if s.othersHold r.conditions then ⟨.counting, s.rs.dwell.elapsed, decide (r.dwell = 0)⟩ else s.rs.dwell
          | .counting =>
            { s.rs.dwell with holds := s.rs.dwell.holds || decide (r.dwell * 1000 ≤ s.rs.dwell.elapsed) }
          | .stopped => s.rs.dwell
        else s.rs.dwell
      let done : State := { s with
        rs := { s.rs with
          current := none, dwell := ⟨.stopped, 0, false⟩, stepTimer := .stopped
          lastLabel := some r.label, done := satSucc 65535 s.rs.done }
        lp := { s.lp with events := addEvent .stepDone s.lp.events } }
      (¬ (s.othersHold r.conditions = true ∧ (r.conditions.dwell = true → dwell.holds = true)) →
        evaluate s = { s with rs := { s.rs with dwell := dwell } }) ∧
      (s.othersHold r.conditions = true → (r.conditions.dwell = true → dwell.holds = true) →
        (r.last = true → evaluate s = enterIdle done) ∧
        (r.last = false → s.rs.queue = [] → evaluate s = { done with
          rs := { done.rs with run := .starved }
          lp := { done.lp with events := addEvent .starved done.lp.events } }) ∧
        (∀ next rest, r.last = false → s.rs.queue = next :: rest →
          evaluate s = stepStart next { done with rs := { done.rs with queue := rest } })))

/-- RUN-HOLD, RUN-RESUME and QUEUE-CLEAR: in which run states each is taken, and the whole effect where it is. That
leaving HELD makes the prior state absent is the model's inference (log 34). Pulsing that becomes allowed at the end of HELD begins with
the pulse interval timer at 0. No abort order waits for a RUN-RESUME (log 35:
FaultTaken says what one adds). -/
def Obligations.HoldResumeClear : Prop :=
  ∀ s : State, s.portReady → s.released = true →
    (s.rs.run = .running ∨ s.rs.run = .starved →
      exec (.runHold []) s = .next ({ s with
        rs := { s.rs with
          run := .held, prior := some (if s.rs.run = RunState.running then PriorState.running else PriorState.starved) }
        bd := { s.bd with pulse := if s.pulsing then none else s.bd.pulse }
        lp := { s.lp with events := addEvent .held s.lp.events } }.answered ⟨0x23, .ok, []⟩)) ∧
    (s.rs.run = .held → exec (.runHold []) s = .next (s.answered ⟨0x23, .ok, []⟩)) ∧
    (s.rs.run = .idle ∨ s.rs.run = .aborting → exec (.runHold []) s = .next (s.answered ⟨0x23, .state, []⟩)) ∧
    (s.rs.abortOrdered = false → s.rs.run ≠ .held → exec (.runResume []) s = .next (s.answered ⟨0x24, .state, []⟩)) ∧
    (∀ r, s.rs.abortOrdered = false → s.rs.run = .held → s.rs.prior = some .running → s.rs.current = some r → ∃ u : State,
      exec (.runResume []) s = .next (sendReply ⟨0x24, .ok, []⟩ (evaluate u)) ∧
      u.withoutReactions = { s.heard with
        rs := { s.rs with
          run := .running, prior := none
          stepTimer := if r.timeout = 0 then .stopped else .running (r.timeout * 1000) }
        bd := { s.bd with droopWait := false, factor := .full } }.withoutReactions ∧
      u.bd.pulse = if u.pulsing then some 0 else s.bd.pulse) ∧
    (∀ r rest, s.rs.abortOrdered = false → s.rs.run = .held → s.rs.prior = some .starved → s.rs.queue = r :: rest → ∃ u : State,
      exec (.runResume []) s = .next (sendReply ⟨0x24, .ok, []⟩ (stepStart r u)) ∧
      u.withoutReactions = { s.heard with
        rs := { s.rs with run := .running, prior := none, queue := rest }
        bd := { s.bd with droopWait := false, factor := .full } }.withoutReactions ∧
      u.bd.pulse = if u.pulsing then some 0 else s.bd.pulse) ∧
    (s.rs.abortOrdered = false → s.rs.run = .held → s.rs.prior = some .starved → s.rs.queue = [] → ∃ u : State,
      exec (.runResume []) s = .next (sendReply ⟨0x24, .ok, []⟩ u) ∧
      u.withoutReactions = { s.heard with
        rs := { s.rs with run := .starved, prior := none }
        bd := { s.bd with droopWait := false, factor := .full } }.withoutReactions ∧
      u.bd.pulse = if u.pulsing then some 0 else s.bd.pulse) ∧
    (s.rs.run = .idle ∨ s.rs.run = .held →
      exec (.queueClear []) s = .next ({ s with rs := { s.rs with queue := [] } }.answered ⟨0x21, .ok, []⟩)) ∧
    (s.rs.run ≠ .idle → s.rs.run ≠ .held → exec (.queueClear []) s = .next (s.answered ⟨0x21, .state, []⟩))

/-- RUN-ABORT and the two entries behind it. Entry to ABORTING empties the queue and counts what it discarded, drops the step and
the parts in force, turns ZC and GC to their abort values and stops the boat where it stands; entry to IDLE drops the step and
the parts in force and turns ZC and GC to their IDLE values. An abort purge that is met at its entry ends the abort at once. That the
stopped dwell timer has the elapsed time 0 is the model's choice (log 36), and that an entry to IDLE makes the prior state of HELD
absent its inference (log 34). -/
def Obligations.AbortAndIdleEntries : Prop :=
  (∀ s : State, s.portReady → s.released = true →
    (s.rs.run = .idle ∨ s.rs.run = .aborting → exec (.runAbort []) s = .next (s.answered ⟨0x25, .state, []⟩)) ∧
    (s.rs.run ≠ .idle → s.rs.run ≠ .aborting →
      exec (.runAbort []) s = .next (sendReply ⟨0x25, .ok, []⟩
        (if s.image.abortPurgeRequirement * s.image.tubeVolume * 120 = 0 then enterIdle (beginAbort s.heard)
        else beginAbort s.heard)))) ∧
  (∀ s : State, (beginAbort s).withoutReactions = { s with
    rs := { s.rs with
      run := .aborting, prior := none, queue := [], discarded := s.rs.queue.length, current := none
      thermal := none, gas := none, dwell := ⟨.stopped, 0, false⟩, stepTimer := .stopped
      abortTimer := .running (s.image.abortTimeout * 1000) }
    zc := { s.zc with
      zones := PerZone.build fun z => { s.zoneC z with
        target := if s.used z then some s.image.idleTemperature else none }
      rate := some s.image.idleRate, band := some 0, settle := none, rampWait := false }
    gc := { s.gc with
      lines := PerLine.build fun l => { s.line l with
        commanded := if l = GasLine.purge then s.image.abortPurgeFlow else 0 }
      acc := 0, requirement := none, abortPurge := true }
    bd := { s.bd with move := none, droopWait := false, c := s.bd.e }
    bu := { s.bu with purge := ⟨min s.image.abortPurgeFlow s.image.bleedFloor, s.image.abortPurgeFlow⟩ }
    }.withoutReactions ∧ (beginAbort s).motion = .rest ∧ (beginAbort s).bd.pulse = none) ∧
  (∀ s : State, (enterIdle s).withoutReactions = { s with
    rs := { s.rs with
      run := .idle, prior := none, current := none, thermal := none, gas := none
      dwell := ⟨.stopped, 0, false⟩, stepTimer := .stopped, abortTimer := .stopped, clockPhase := .stopped
      labelInForce := none }
    zc := { s.zc with
      zones := PerZone.build fun z => { s.zoneC z with
        target := if s.used z then some s.image.idleTemperature else none }
      rate := some s.image.idleRate, band := some 0, settle := none, rampWait := false }
    gc := { s.gc with
      lines := PerLine.build fun l => { s.line l with
        commanded := if l = GasLine.purge then s.image.bleedFloor else 0, latch := false, devTimer := none }
      requirement := none, abortPurge := false }
    bu := { s.bu with purge := ⟨s.image.bleedFloor, s.image.bleedFloor⟩ }
    }.withoutReactions ∧ .runEnded ∈ (enterIdle s).lp.events)

/-- BOAT-MOVE: taken in IDLE alone, with target and speed clamped and no droop limit. The boat is at rest at once where it holds
the target already, and otherwise the target is outstanding, with the direction line toward it; that the pulse interval timer
restarts at every target taken, also where pulsing was allowed before, is the model's inference (log 14). -/
def Obligations.BoatMoveTaken : Prop :=
  ∀ (s : State) (body : List Byte), s.portReady → s.released = true → body.length = 4 →
    (s.rs.run ≠ .idle → exec (.boatMove body) s = .next (s.answered ⟨0x30, .state, []⟩)) ∧
    (s.rs.run = .idle →
      let m : BoatPart := ⟨min s.image.pIn (at2 body 0), min 600 (max 10 (at2 body 2)), 0⟩
      let code : ReplyCode := if m.target = at2 body 0 ∧ m.speed = at2 body 2 then .ok else .okClamped
      let there : Bool := decide (s.bd.c = m.target ∧ s.followingError.natAbs ≤ 5)
      ∃ t : State, exec (.boatMove body) s = .next t ∧
        t.withoutReactions = ({ s with bd := { s.bd with
          move := if there then none else some m
          bdir := if s.bd.c < m.target then true else if m.target < s.bd.c then false else s.bd.bdir
          droopWait := false, factor := .full, droop := none } }.answered ⟨0x30, code, []⟩).withoutReactions ∧
        (there = true → .boatArrived ∈ t.lp.events ∧ t.motion = .rest) ∧
        t.bd.pulse = if t.pulsing then some 0 else none)

/-! ### Faults -/

/-- A fault, whole: the record with the class by kind and subject, the label and run time outside IDLE; its place in the log; the
count; the event; and the run effect of its class in the run state it meets. Where a command that an abort order may meet waits next
(FAULT-CLEAR, REPLY_END, or one that can complete a step), the order is taken before it or after it, which is a free choice of the
model (log 35): a command that an order waits for runs as without it, and RS then takes the order in the run state it meets, with no
effect in IDLE and ABORTING. In GC_PERIOD and BD_EVALUATION, which can raise a further fault, the order is taken before that fault:
GasPeriod and BdEvaluated say how. -/
def Obligations.FaultTaken : Prop :=
  ∀ (k : FaultKind) (subject : FaultSubject) (value : FaultValue) (s : State),
    let cls : FaultClass :=
      if k ∈ [FaultKind.overtemp, .boatStall, .boatSlip] ∨ k = .zoneLost ∧ subject = .zone .z3 then .abort
      else if k ∈ [FaultKind.zoneLost, .stepTimeout, .flowDeviation, .sealLost, .markOverflow] then .hold
      else .note
    let record : FaultRecord := ⟨k, cls, subject, if s.rs.run = .idle then none else s.rs.labelInForce,
      if s.rs.run = .idle then none else some s.rs.clock, value⟩
    let taken : State := { s with
      fl := {
        first := s.fl.first.or (some record)
        next := if s.fl.first.isSome then s.fl.next.or (some record) else s.fl.next
        summary := if s.fl.first.isSome && s.fl.next.isSome then
          FaultKind.all.filter (fun x => x = k || x ∈ s.fl.summary) else s.fl.summary
        count := satSucc 255 s.fl.count }
      lp := { s.lp with events := addEvent .fault s.lp.events } }
    (cls = .hold → s.rs.run = .running ∨ s.rs.run = .starved →
      reportFault k subject value s = enterHeld taken ∧ (enterHeld taken).rs.run = .held) ∧
    (cls = .abort → s.rs.run = .running ∨ s.rs.run = .starved ∨ s.rs.run = .held →
      (s.orderMeets = false → reportFault k subject value s = enterAborting taken) ∧
      (s.orderMeets = true →
        reportFault k subject value s = enterAborting { taken with free := s.free + 1 } ∨
        reportFault k subject value s =
          { taken with rs := { s.rs with abortOrdered := true }, free := s.free + 1 })) ∧
    (cls = .note ∨ s.rs.run = .idle ∨ s.rs.run = .aborting ∨ cls = .hold ∧ s.rs.run = .held →
      reportFault k subject value s = taken) ∧
    (reportFault k subject value s).fl = taken.fl ∧ .fault ∈ (reportFault k subject value s).lp.events ∧
    (s.orderMeets = true ↔ ∃ c rest, s.pending = c :: rest ∧
      (c ∈ [.dwellExpiry, .zcPeriod, .gcPeriod, .bdEvaluation, .replyEnd] ∨
        ∃ body, c = .faultClear body ∨ c = .runResume body)) ∧
    (s.rs.abortOrdered = false → takeWaitingOrder s = s) ∧
    (s.rs.abortOrdered = true →
      let off : State := { s with rs := { s.rs with abortOrdered := false } }
      (s.rs.run = .running ∨ s.rs.run = .starved ∨ s.rs.run = .held → takeWaitingOrder s = enterAborting off) ∧
      (s.rs.run = .idle ∨ s.rs.run = .aborting → takeWaitingOrder s = off)) ∧
    (∀ c, s.rs.abortOrdered = true → meetsOrder c = true → c ≠ .gcPeriod → c ≠ .bdEvaluation → ∃ t : State,
      exec c { s with rs := { s.rs with abortOrdered := false } } = .next t ∧
      (t.rs.run = .running ∨ t.rs.run = .starved ∨ t.rs.run = .held → exec c s = .next (enterAborting t)) ∧
      (t.rs.run = .idle ∨ t.rs.run = .aborting → exec c s = .next t))

/-- FAULT-CLEAR: refused in ABORTING; otherwise the log is empty, every zone latched in OVERTEMP is released by its channels, and
nothing else changes. A clear that overtakes an abort order is taken so too, and the abort then begins with the emptied log. -/
def Obligations.FaultClearReleases : Prop :=
  ∀ s : State, s.portReady → s.released = true →
    let cleared : State := { s with
      rs := { s.rs with abortOrdered := false }
      fl := ⟨none, none, [], 0⟩
      zm := { s.zm with zones := PerZone.build fun z =>
        let m := s.zoneM z
        if m.state ≠ ZoneState.overtemp then m
        else if m.profile.valid then { m with state := .normal }
        else if m.spike.valid then { m with state := .degraded }
        else { m with state := .lostHold, lastMeasured := none, holdTimer := .running 10000 } } }
    (s.rs.run = .aborting → exec (.faultClear []) s =
      .next ({ s with rs := { s.rs with abortOrdered := false } }.answered ⟨0x10, .state, []⟩)) ∧
    (s.rs.run = .idle ∨ s.rs.run ≠ .aborting ∧ s.rs.abortOrdered = false →
      exec (.faultClear []) s = .next (cleared.answered ⟨0x10, .ok, []⟩)) ∧
    (s.rs.run = .running ∨ s.rs.run = .starved ∨ s.rs.run = .held → s.rs.abortOrdered = true →
      exec (.faultClear []) s = .next (enterAborting (cleared.answered ⟨0x10, .ok, []⟩)))

/-! ### Run timers -/

/-- The four timers of a run at their ends: DWELL comes to hold and completion is evaluated; the step timeout raises STEP-TIMEOUT
and holds the run; the abort timeout raises ABORT-INCOMPLETE while still ABORTING and ends the abort in IDLE; the run clock
advances by one second, the next second beginning at the tick (log 28, the model's inference). In IDLE none of them has any
effect. No abort order waits here for the dwell expiry (log 35: FaultTaken says what one adds). -/
def Obligations.RunTimersExpire : Prop :=
  ∀ s : State,
    (∀ r, s.rs.run = .running → s.rs.current = some r → r.conditions.dwell = true → s.rs.dwell.phase = .counting →
      s.rs.dwell.holds = false → s.rs.abortOrdered = false →
      exec .dwellExpiry s = .next (evaluate { s with rs := { s.rs with dwell := ⟨.counting, r.dwell * 1000, true⟩ } })) ∧
    (∀ r n, s.rs.run = .running → s.rs.current = some r → s.rs.stepTimer = .running n →
      ∃ t : State, exec .stepTimeoutExpiry s = .next t ∧
        t.withoutReactions = { s with
          rs := { s.rs with run := .held, prior := some .running, stepTimer := .expired }
          fl := placeFault ⟨.stepTimeout, .hold, .none, s.rs.labelInForce, some s.rs.clock, .number r.timeout⟩ s.fl
          }.withoutReactions ∧ .held ∈ t.lp.events ∧ .fault ∈ t.lp.events) ∧
    (∀ n, s.rs.run = .aborting → s.rs.abortTimer = .running n →
      exec .abortTimeout s = .next (enterIdle { s with
        fl := placeFault ⟨.abortIncomplete, .note, .none, s.rs.labelInForce, some s.rs.clock, .number s.gc.acc⟩ s.fl
        lp := { s.lp with events := addEvent .fault s.lp.events } })) ∧
    (s.rs.run ≠ .idle → exec .runClockTick s =
      .next { s with rs := { s.rs with clock := satSucc 4294967295 s.rs.clock, clockPhase := .running 1000 } }) ∧
    (s.rs.run = .idle → (s.rs.abortOrdered = false → exec .dwellExpiry s = .next s) ∧ exec .stepTimeoutExpiry s = .next s ∧
      exec .abortTimeout s = .next s ∧ exec .runClockTick s = .next s)

/-! ### Zones -/

/-- A sample record with a good sum: what it does by its status, its channel and its value, from a discarded record to an entry
into OVERTEMP; and one with a bad sum, which is counted and hunted again from its second byte. That the last measured value is
recorded at DEGRADED to NORMAL and, from the sample just taken in, at an entry to OVERTEMP (log 11), and that OVERTEMP comes in place
of the recovery (log 12), are the model's inferences. Before the release nothing is taken; a receiver that stands inside a record is
fed the same five bytes (log 25). -/
def Obligations.SampleTaken : Prop :=
  (∀ (s : State) (b1 b2 b3 b4 : Byte), s.released = false → exec (.sampleRecord b1 b2 b3 b4) s = .next s) ∧
  (∀ (s : State) (b1 b2 b3 b4 : Byte), s.released = true →
    let out := fieldFeed s.zm.rx [0xE5, b1, b2, b3, b4]
    exec (.sampleRecord b1 b2 b3 b4) s =
      .next (out.2.foldl takeRecord { s with zm := { s.zm with rx := out.1 } })) ∧
  (∀ (got : List Byte) (b : Byte),
    (got.length < 3 → fieldTake (some got) b = (some (got ++ [b]), none)) ∧
    (∀ b1 b2 b3, got = [b1, b2, b3] →
      (b1 + b2 + b3 + b = 0 → fieldTake (some got) b = (none, some (.record b1 b2 b3))) ∧
      (b1 + b2 + b3 + b ≠ 0 → fieldTake (some got) b = (rehunt [b1, b2, b3, b], some .bad))) ∧
    (b = 0xE5 → fieldTake none b = (some [], none)) ∧ (b ≠ 0xE5 → fieldTake none b = (none, none)) ∧
    (∀ rest, (∀ x ∈ got, x ≠ 0xE5) → rehunt (got ++ 0xE5 :: rest) = some rest ∧ rehunt got = none)) ∧
  ∀ (s : State) (b1 b2 b3 b4 : Byte), s.released = true → s.zm.rx = none →
    let v := sampleValue b2 b3
    let counted : State := { s with zm := { s.zm with checkErrors := satSucc 65535 s.zm.checkErrors } }
    (b1 + b2 + b3 + b4 ≠ 0 → exec (.sampleRecord b1 b2 b3 b4) s =
      .next { counted with zm := { counted.zm with rx := rehunt [b1, b2, b3, b4] } }) ∧
    (b1 + b2 + b3 + b4 = 0 →
      (sampleStatus b1 = none → exec (.sampleRecord b1 b2 b3 b4) s = .next counted) ∧
      ∀ st, sampleStatus b1 = some st →
        let good : Bool := decide (st = .ok ∧ -500 ≤ v ∧ v ≤ 16000)
        (13 ≤ sampleChannel b1 → exec (.sampleRecord b1 b2 b3 b4) s =
          .next { s with zm := { s.zm with ignored := satSucc 65535 s.zm.ignored } }) ∧
        (∀ l, sampleChannel b1 = lineChannel l → exec (.sampleRecord b1 b2 b3 b4) s =
          .next { s with gc := { s.gc with lines := s.gc.lines.set l (
            if st = .ok ∧ 0 ≤ v ∧ v ≤ 1000 then
              { s.line l with status := .ok, lastGood := some v.toNat, age := some 0, timer := .running 2000 }
            else { s.line l with status := if st = .ok then .range else st }) } }) ∧
        (∀ z k, sampleChannel b1 = z.index + (if k = ChannelKind.spike then 5 else 0) →
          let m := s.zoneM z
          let put := fun m' : ZoneMeasurement => ({ s with zm := { s.zm with zones := s.zm.zones.set z m' } } : State)
          let fresh := m.setChannel k ⟨.ok, some v, some 0, .running 2000⟩
          (good = false → exec (.sampleRecord b1 b2 b3 b4) s =
            .next (put (m.setChannel k { m.channel k with status := if st = .ok then .range else st }))) ∧
          (good = true → s.used z = false → exec (.sampleRecord b1 b2 b3 b4) s = .next (put fresh)) ∧
          (good = true → s.used z = true → v ≤ s.image.zoneLimit →
            ((m.channel k).valid = true ∨ m.state ∈ [.normal, .overtemp, .unused] ∨ m.state = .degraded ∧ k = .spike →
              exec (.sampleRecord b1 b2 b3 b4) s = .next (put fresh)) ∧
            ((m.channel k).valid = false → m.state = .degraded → k = .profile →
              exec (.sampleRecord b1 b2 b3 b4) s =
                .next (put { fresh with state := .normal, lastMeasured := m.measured })) ∧
            ((m.channel k).valid = false → m.state = .lostHold ∨ m.state = .lost →
              exec (.sampleRecord b1 b2 b3 b4) s = .next (put { fresh with
                state := if k = .profile then .normal else .degraded, holdTimer := .stopped }))) ∧
          (good = true → s.used z = true → s.image.zoneLimit < v →
            (m.state = .overtemp → exec (.sampleRecord b1 b2 b3 b4) s = .next (put fresh)) ∧
            (m.state ≠ .overtemp → exec (.sampleRecord b1 b2 b3 b4) s =
              .next (reportFault .overtemp (.zone z) (.number v)
                (put { fresh with
                  state := .overtemp, holdTimer := .stopped
                  lastMeasured :=
                    if m.state = .normal then fresh.profile.lastGood
                    else if m.state = .degraded then fresh.spike.lastGood.map (· + m.offset)
                    else m.lastMeasured }))))))

/-- A channel whose good-sample timer runs out, and a hold timer that runs out: the zone state each leads to, the last measured
value, the hold timer and the fault. And the measured value by the zone's state, a channel being valid while its good-sample timer
runs. That the last measured value is recorded at NORMAL to DEGRADED too is the model's inference (log 11). -/
def Obligations.ZoneTimersExpire : Prop :=
  (∀ (m : ZoneMeasurement) (c : Channel),
    let estimate := m.spike.lastGood.map (· + m.offset)
    (c.valid = true ↔ ∃ n, c.timer = .running n) ∧
    (m.state = .normal → m.measured = m.profile.lastGood) ∧ (m.state = .degraded → m.measured = estimate) ∧
    (m.state = .overtemp →
      (m.profile.valid = true → m.measured = m.profile.lastGood) ∧
      (m.profile.valid = false → m.spike.valid = true → m.measured = estimate) ∧
      (m.profile.valid = false → m.spike.valid = false → m.measured = none)) ∧
    (m.state = .lostHold ∨ m.state = .lost ∨ m.state = .unused → m.measured = none)) ∧
  ∀ (s : State) (z : Zone) (k : ChannelKind) (n : Nat),
    let m := s.zoneM z
    let put := fun m' : ZoneMeasurement => ({ s with zm := { s.zm with zones := s.zm.zones.set z m' } } : State)
    let lost := m.setChannel k { m.channel k with timer := .stopped }
    let other := m.channel (if k = .profile then .spike else .profile)
    ((m.channel k).timer = .running n →
      (s.used z = false ∨ m.state ∈ [.lostHold, .lost, .overtemp, .unused] →
        exec (.channelTimerExpiry z k) s = .next (put lost)) ∧
      (s.used z = true → m.state = .normal ∨ m.state = .degraded → other.valid = false →
        exec (.channelTimerExpiry z k) s =
          .next (put { lost with state := .lostHold, lastMeasured := m.measured, holdTimer := .running 10000 })) ∧
      (s.used z = true → m.state = .normal → other.valid = true → ∀ v, (m.channel k).lastGood = some v →
        exec (.channelTimerExpiry z k) s = .next (reportFault .channelFailed (.channel z k) (.number v)
          (put (if k = .profile then { lost with state := .degraded, lastMeasured := m.measured } else lost)))) ∧
      (s.used z = true → m.state = .degraded → other.valid = true →
        exec (.channelTimerExpiry z k) s = .next (put lost))) ∧
    ((m.channel k).valid = false → exec (.channelTimerExpiry z k) s = .next s) ∧
    (m.state = .lostHold → m.holdTimer = .running n →
      exec (.holdTimerExpiry z) s = .next (reportFault .zoneLost (.zone z)
        (match m.lastMeasured with
          | some v => .number v
          | none => .absent) (put { m with state := .lost, holdTimer := .stopped }))) ∧
    (m.state ≠ .lostHold → exec (.holdTimerExpiry z) s = .next s)

/-- A ZM period: the learned offset of each used zone with both channels valid moves by the truncated sixteenth of what is left of
the difference and stays within 500; every other zone, and all else, is as it was. -/
def Obligations.OffsetLearns : Prop :=
  ∀ s : State, s.released = true → ∃ t : State, exec .zmPeriod s = .next t ∧
    t = { s with zm := { s.zm with zones := t.zm.zones, phase := .running 500 } } ∧
    ∀ z,
      (∀ p q, s.used z = true → (s.zoneM z).profile.valid = true → (s.zoneM z).spike.valid = true →
        (s.zoneM z).profile.lastGood = some p → (s.zoneM z).spike.lastGood = some q →
        t.zoneM z = { s.zoneM z with
          offset := min 500 (max (-500) ((s.zoneM z).offset + (p - q - (s.zoneM z).offset).tdiv 16)) }) ∧
      (s.used z = false ∨ (s.zoneM z).profile.valid = false ∨ (s.zoneM z).spike.valid = false →
        t.zoneM z = s.zoneM z)

/-! ### Heaters -/

/-- A ZC period, the setpoints: an unseeded zone with a measured value is seeded; HELD, a used zone in LOST-HOLD, or a zone that
lags by more than the band in RUNNING or STARVED freezes every setpoint; otherwise each moves toward its target by the rate and
stops there. A change of THERMAL-SETTLED makes RS evaluate completion. No abort order waits for the period (log 35: FaultTaken says
what one adds). -/
def Obligations.SetpointsAdvance : Prop :=
  ∀ s : State, s.released = true → s.rs.abortOrdered = false →
    let u := zcStages s
    let seeded := fun z => match (s.zoneC z).spi, (s.zoneM z).measured with
      | none, some m => if s.used z then some ((max 0 (min (s.image.zoneLimit : Int) m)).toNat * 120) else none
      | spi, _ => spi
    let frozen : Prop := s.rs.run = .held ∨ ∃ z, s.used z = true ∧ (s.zoneM z).state = .lostHold
    let lags : Prop := (s.rs.run = .running ∨ s.rs.run = .starved) ∧ ∃ band z spi target m,
      s.zc.band = some band ∧ 0 < band ∧ s.used z = true ∧
      ((s.zoneM z).state = .normal ∨ (s.zoneM z).state = .degraded) ∧
      seeded z = some spi ∧ (s.zoneC z).target = some target ∧ (s.zoneM z).measured = some m ∧
      spi / 120 ≠ target ∧ (band : Int) < (m - (spi / 120 : Nat)).natAbs
    exec .zcPeriod s = .next (if s.thermalSettled = u.thermalSettled then u else evaluate u) ∧
    (u.zc.rampWait = true ↔ lags) ∧ (u.zc.frozen = true ↔ frozen) ∧
    ∀ z,
      (frozen ∨ lags → (u.zoneC z).spi = seeded z) ∧
      (¬ frozen → ¬ lags → ∀ spi target rate, seeded z = some spi → (s.zoneC z).target = some target →
        s.zc.rate = some rate → s.used z = true →
        (((target * 120 : Nat) - (spi : Int)).natAbs ≤ rate → (u.zoneC z).spi = some (target * 120)) ∧
        (rate < ((target * 120 : Nat) - (spi : Int)).natAbs →
          (u.zoneC z).spi = some (if spi < target * 120 then spi + rate else spi - rate)))

/-- A ZC period, the drive: the raw drive and the integral accumulator of each zone by its state, the demand, the want and the
floor handed to BU, the cap-seen flag from the cap as it then stands, and the settle timer; every target and window, the rate, the
band and all else outside the setpoints and the two ramp flags stay as they were. -/
def Obligations.DriveAndDemand : Prop :=
  ∀ s : State, s.released = true →
    let u := zcStages s
    (∀ z,
      (s.used z = false ∨ (u.zoneC z).spi = none → (u.zoneC z).draw = 0 ∧ (u.zoneC z).ia = (s.zoneC z).ia) ∧
      (∀ spi, s.used z = true → (u.zoneC z).spi = some spi →
        (∀ m, (s.zoneM z).state = .normal ∨ (s.zoneM z).state = .degraded → (s.zoneM z).measured = some m →
          let e : Int := max (-2000) (min 2000 ((spi / 120 : Nat) - m))
          let kept : Prop := 0 < e ∧ s.zc.capSeen = true ∨ 0 < e ∧ (s.zoneC z).draw = 1000 ∨ e < 0 ∧ (s.zoneC z).draw = 0
          (kept → (u.zoneC z).ia = (s.zoneC z).ia) ∧
          (¬ kept → ((u.zoneC z).ia : Int) = max 0 (min 256000 ((s.zoneC z).ia + s.image.ki.get z * e))) ∧
          ((u.zoneC z).draw : Int) =
            max 0 (min 1000 ((s.image.kp.get z * e).tdiv 16 + ((u.zoneC z).ia / 256 : Nat)))) ∧
        ((s.zoneM z).state = .lostHold →
          (u.zoneC z).draw = (s.zoneC z).draw ∧ (u.zoneC z).ia = (s.zoneC z).ia) ∧
        ((s.zoneM z).state = .lost ∨ (s.zoneM z).state = .overtemp →
          (u.zoneC z).draw = 0 ∧ (u.zoneC z).ia = (s.zoneC z).ia))) ∧
    u.zc.demand = PerZone.sum (fun z => if s.used z then (u.zoneC z).draw * s.image.rating.get z else 0) ∧
    u.zc.want = (u.zc.demand + 999) / 1000 ∧
    u.zc.floor = min u.zc.want (((PerZone.sum fun z =>
      if s.used z = true ∧ (u.zoneC z).spi.isSome ∧ (s.zoneM z).state ∈ [.normal, .degraded, .lostHold] then
        (u.zoneC z).ia / 256 * s.image.rating.get z else 0) + 999) / 1000) ∧
    u.bu.heater = ⟨u.zc.floor, u.zc.want⟩ ∧
    (u.zc.capSeen = true ↔ u.bu.heldHeater * 1000 < u.zc.demand) ∧
    u.zc.settle = (
      if PerZone.all (fun z => !s.used z || ((s.zoneM z).state.controlled &&
        match (u.zoneC z).spi, (s.zoneC z).target, (s.zoneM z).measured with
        | some spi, some target, some m => decide (spi / 120 = target ∧ (m - (spi / 120 : Nat)).natAbs ≤
            (if s.zc.band.getD 0 = 0 then 20 else s.zc.band.getD 0))
        | _, _, _ => false)) then
        some (match s.zc.settle with
          | none => 0
          | some e => min (e + 500) (s.image.settleTime * 1000))
      else none) ∧
    u.withoutReactions = { s with
      zc := { s.zc with
        zones := PerZone.build fun z => { s.zoneC z with
          spi := (u.zoneC z).spi, ia := (u.zoneC z).ia, draw := (u.zoneC z).draw }
        demand := u.zc.demand, want := u.zc.want, floor := u.zc.floor, settle := u.zc.settle
        rampWait := u.zc.rampWait, frozen := u.zc.frozen, phase := .running 500 }
      bu := { s.bu with heater := u.bu.heater } }.withoutReactions

/-- The applied drive of each zone from its raw drive, the demand and the held heater grant, and the heater windows: a window
starts at 0, repeats every 1000 ms, and the output is high exactly while the time since its start is below the applied drive. -/
def Obligations.HeaterOutputs : Prop :=
  ∀ (s : State) (z : Zone),
    (s.released = true → s.used z = true →
      (s.zc.demand ≤ s.bu.heldHeater * 1000 → s.appliedDrive z = (s.zoneC z).draw) ∧
      (s.bu.heldHeater * 1000 < s.zc.demand →
        s.appliedDrive z = (s.zoneC z).draw * s.bu.heldHeater * 1000 / s.zc.demand)) ∧
    (s.released = false ∨ s.used z = false → s.appliedDrive z = 0 ∧ s.heaterHigh z = false) ∧
    (∀ e, (s.zoneC z).window = .running e → (s.heaterHigh z = true ↔ e % 1000 < s.appliedDrive z)) ∧
    ((∀ e, (s.zoneC z).window ≠ .running e) → s.heaterHigh z = false) ∧
    (s.released = true → ∃ t : State, exec (.heaterWindowStart z) s = .next t ∧
      t = { s with zc := { s.zc with zones := s.zc.zones.set z { s.zoneC z with window := .running 0 } } } ∧
      (t.heaterHigh z = true ↔ 0 < s.appliedDrive z)) ∧
    (∀ e, (s.zoneC z).window = .running e → e < s.appliedDrive z → ∃ t : State,
      exec (.heaterOnTimeEnd z) s = .next t ∧
      t = { s with zc := { s.zc with
        zones := s.zc.zones.set z { s.zoneC z with window := .running (s.appliedDrive z) } } } ∧
      (s.appliedDrive z < 1000 → s.heaterHigh z = true ∧ t.heaterHigh z = false))

/-! ### Gas -/

/-- A GC period: the accumulator takes the PURGE readback, a change of PURGE-DONE makes RS evaluate completion, the abort purge in
progress is tested and, met in ABORTING, ends the abort in IDLE, each line's deviation is timed and reported once, and BU has its
purge floor and want. A line that deviates at every period reaches the 10 s at the 21st. That completion is evaluated at stage 2,
with stage 3 on the readings of the start and the latches a step start left (log 23), and the lines' order (log 39), are the
model's. An abort order that waits for the period (log 35) is taken before its first FLOW-DEVIATION, which then meets the abort, or
else after it. -/
def Obligations.GasPeriod : Prop :=
  (∀ s : State, s.released = true →
    let count := if (s.line .purge).valid then (s.line .purge).lastGood.getD 0 else 0
    let s1 : State := { s with gc := { s.gc with acc := min 4294967295 (s.gc.acc + count) } }
    let e := if s.purgeDone = s1.purgeDone then s1 else evaluate s1
    let met : Prop := e.gc.abortPurge = true ∧ s.image.abortPurgeRequirement * s.image.tubeVolume * 120 ≤ e.gc.acc
    let s2 := if e.gc.abortPurge && decide (s.image.abortPurgeRequirement * s.image.tubeVolume * 120 ≤ e.gc.acc) then
        if e.rs.run = .aborting then enterIdle e else { e with gc := { e.gc with abortPurge := false } }
      else e
    (s.rs.run = .aborting → met → s2 = enterIdle s1) ∧
    let s3 := testLine s (testLine s (testLine s s2 .purge) .carrier) .oxidant
    ∃ u : State, exec .gcPeriod s = .next (takeWaitingOrder u) ∧
      u.withoutReactions = { s3 with
        gc := { s3.gc with phase := .running 500 }
        bu := { s3.bu with purge :=
          ⟨min (s3.line .purge).commanded s.image.bleedFloor, (s3.line .purge).commanded⟩ } }.withoutReactions) ∧
  (∀ (s u : State) (l : GasLine),
    let a := s.appliedFlow l
    let deviates : Bool := match (s.line l).valid, (s.line l).lastGood with
      | true, some v => decide (max (a * s.image.flowTolerance / 100) 5 < ((v : Int) - a).natAbs)
      | _, _ => true
    let timer : Option Nat :=
      if deviates then
        match (u.line l).devTimer with
        | none => some 0
        | some e => some (min 10000 (e + 500))
      else none
    let put := fun latch : Bool => ({ u with gc := { u.gc with
      lines := u.gc.lines.set l { u.line l with devTimer := timer, deviates := deviates, latch := latch } } } : State)
    (timer = some 10000 → (u.line l).latch = false → testLine s u l =
      reportFault .flowDeviation (.line l)
        (match (s.line l).valid, (s.line l).lastGood with
          | true, some v => .number v
          | _, _ => .absent) (takeWaitingOrder (put true))) ∧
    (timer ≠ some 10000 ∨ (u.line l).latch = true → testLine s u l = put (u.line l).latch)) ∧
  (∀ n : Nat, (deviationTimer true)^[n + 1] none = some (min 10000 (500 * n)))

/-- PURGE-DONE, the oxidant permit and the applied flows at every moment: the applied PURGE flow is never above the held purge grant,
and the applied OXIDANT flow is 0 unless SEAL is asserted, the boat is at full-in and oxidant is not disabled. -/
def Obligations.FlowsApplied : Prop :=
  ∀ s : State,
    (s.released = true →
      s.appliedFlow .purge = min (s.line .purge).commanded s.bu.heldPurge ∧
      s.appliedFlow .carrier = (s.line .carrier).commanded ∧
      (s.oxidantPermit = true ↔ s.pins.sealed = true ∧ ((s.bd.e : Int) - s.image.pIn).natAbs ≤ 5 ∧
        s.image.oxidantDisabled = false) ∧
      s.appliedFlow .oxidant = if s.oxidantPermit then (s.line .oxidant).commanded else 0) ∧
    (s.released = false → ∀ l, s.appliedFlow l = 0) ∧
    (s.purgeDone = true ↔ ∃ x, s.gc.requirement = some x ∧ x * s.image.tubeVolume * 120 ≤ s.gc.acc)

/-- The gas lines' own events: a readback's timer runs out, a setpoint record is sent with the applied flow of that moment, a
repeat timer queues its line. A record's four bytes after its sync byte add to 0. The record sent last gives FLTX its levels, ten a
character, and characters read give back their bytes; the start bit, the order of the data bits and the idle level are presumed
(log 41). -/
def Obligations.GasLineEvents : Prop :=
  (∀ (s : State) (l : GasLine) (n : Nat),
    ((s.line l).timer = .running n → exec (.readbackTimerExpiry l) s =
      .next { s with gc := { s.gc with lines := s.gc.lines.set l { s.line l with timer := .stopped } } }) ∧
    (∀ rest, s.gc.queue = l :: rest → exec .setpointRecordSend s = .next { s with gc := { s.gc with
      lines := s.gc.lines.set l { s.line l with repeatTimer := .running 1000 }
      queue := rest, sent := some ⟨l, s.appliedFlow l⟩ } }) ∧
    (s.gc.queue = [] → exec .setpointRecordSend s = .next s) ∧
    ((s.line l).repeatTimer = .running n → exec (.repeatTimerExpiry l) s = .next { s with gc := { s.gc with
      lines := s.gc.lines.set l { s.line l with repeatTimer := .expired }
      queue := if l ∈ s.gc.queue then s.gc.queue else s.gc.queue ++ [l] } })) ∧
  (∀ r : SetpointRecord, (setpointBytes r).length = 5 ∧ byteAt (setpointBytes r) 0 = 0xE5 ∧
    byteSum (setpointBytes r).tail = 0 ∧ sampleChannel (byteAt (setpointBytes r) 1) = lineChannel r.line ∧
    (r.flow < 65536 → at2 (setpointBytes r) 2 = r.flow)) ∧
  (∀ s : State, (s.gc.sent = none → ∀ n, s.fltxLevel n = true) ∧
    (∀ r, s.gc.sent = some r → (∀ n, 50 ≤ n → s.fltxLevel n = true) ∧
      ∀ i, i < 5 → s.fltxLevel (10 * i) = false ∧ s.fltxLevel (10 * i + 9) = true ∧
        ∀ j, j < 8 → s.fltxLevel (10 * i + 1 + j) = (byteAt (setpointBytes r) i).getLsbD j)) ∧
  (∀ bytes : List Byte,
    fieldBytes (bytes.flatMap fun b => false :: ((List.range 8).map b.getLsbD ++ [true])) = bytes)

/-- SEAL: its deassertion takes the oxidant flow at once, and in RUNNING or STARVED with OXIDANT commanded it raises SEAL-LOST with
the commanded flow and holds the run; otherwise it raises nothing. -/
def Obligations.SealEvents : Prop :=
  ∀ s : State,
    (∃ t : State, exec .sealAssert s = .next t ∧
      t.withoutReactions = { s with pins := { s.pins with sealed := true } }.withoutReactions) ∧
    (s.pins.sealed = true → ∃ t : State, exec .sealDeassert s = .next t ∧
      t.pins.sealed = false ∧ t.appliedFlow .oxidant = 0 ∧
      (s.released = true → s.rs.run = .running ∨ s.rs.run = .starved → 0 < (s.line .oxidant).commanded →
        t.withoutReactions = { s with
          pins := { s.pins with sealed := false }
          rs := { s.rs with run := .held, prior := priorOf s.rs.run }
          fl := placeFault ⟨.sealLost, .hold, .none, s.rs.labelInForce, some s.rs.clock,
            .number (s.line .oxidant).commanded⟩ s.fl }.withoutReactions ∧
        .held ∈ t.lp.events ∧ .fault ∈ t.lp.events) ∧
      (s.released = false ∨ s.rs.run ∈ [.held, .idle, .aborting] ∨ (s.line .oxidant).commanded = 0 →
        t.withoutReactions = { s with pins := { s.pins with sealed := false } }.withoutReactions)) ∧
    (s.pins.sealed = false → exec .sealDeassert s = .next s)

/-! ### Boat -/

/-- The boat's own lines: an encoder count, a pulse of the stepper, the two changes of LOADCLR, the end of the re-clear timer, and
an edge of REFM, each with its whole effect; the encoder, the gate and the mark queue follow their pins from the release on
only. A count lost at an end of the range still gives the direction (log 33), and C is pulsed toward the target whatever level BDIR
has (log 38): both are the model's, and so is that a re-clear timer that has run out is stopped (log 42). A pulse
has BSTEP high at its start and low again before the next, for a time that is free (log 44). -/
def Obligations.BoatLines : Prop :=
  ∀ s : State,
    (∀ line : EncoderLine,
      let pins : Pins := if line = .a then { s.pins with encA := !s.pins.encA } else { s.pins with encB := !s.pins.encB }
      let inward : Bool := if line = .a then pins.encA != pins.encB else pins.encA == pins.encB
      (s.released = false → exec (.encoderCount line) s = .next { s with pins := pins }) ∧
      (s.released = true → ∃ t : State, exec (.encoderCount line) s = .next t ∧ t.withoutReactions = { s with
        pins := pins
        bd := { s.bd with
          dir := if inward then .inward else .outward
          e := if inward then (if s.bd.e < 20000 then s.bd.e + 1 else s.bd.e) else s.bd.e - 1 } }.withoutReactions)) ∧
    (∀ m, s.motion = .moving → s.bd.move = some m → s.bd.c ≠ m.target →
      let c := if s.bd.c < m.target then s.bd.c + 1 else s.bd.c - 1
      exec .stepPulse s = .next { s with bd := { s.bd with
        c := c, pulses := s.bd.pulses + 1, pulse := if c = m.target then none else some 0 } }) ∧
    (s.pulsing = false → exec .stepPulse s = .next s) ∧
    (s.released = true → s.bd.gate = .closed → exec .loadclrAssert s = .next { s with
      pins := { s.pins with loadclr := true }
      bd := { s.bd with gate := .reclearing, reclear := .running 2000 } }) ∧
    (s.released = false ∨ s.bd.gate ≠ .closed →
      exec .loadclrAssert s = .next { s with pins := { s.pins with loadclr := true } }) ∧
    (s.released = true → exec .loadclrDeassert s = .next { s with
      pins := { s.pins with loadclr := false }
      bd := { s.bd with gate := .closed, reclear := .stopped, pulse := if s.pulsing then none else s.bd.pulse }
      lp := { s.lp with events :=
        if s.motion = .moving ∨ s.motion = .droopWait then addEvent .boatGated s.lp.events else s.lp.events } }) ∧
    (s.released = false → exec .loadclrDeassert s = .next { s with pins := { s.pins with loadclr := false } }) ∧
    (∀ n, s.bd.gate = .reclearing → s.bd.reclear = .running n → ∃ t : State, exec .reclearTimerExpiry s = .next t ∧
      t = { s with bd := { s.bd with
        gate := .opened, reclear := .stopped, pulse := if t.pulsing then some 0 else s.bd.pulse } }) ∧
    (s.bd.gate ≠ .reclearing → exec .reclearTimerExpiry s = .next s) ∧
    s.bdirLevel = s.bd.bdir ∧ (s.bd.pulses = 0 → ∀ us, s.bstepLevel us = false) ∧
    (0 < s.bd.pulses → s.bstepLevel 0 = true ∧ (∀ us, 9999 ≤ us → s.bstepLevel us = false) ∧
      ∀ us later, us ≤ later → s.bstepLevel later = true → s.bstepLevel us = true) ∧
    let edge : State := { s with pins := { s.pins with refm := !s.pins.refm } }
    (s.released = true → s.bd.marks.length < 4 → exec .markCapture s =
      .next { edge with bd := { s.bd with marks := s.bd.marks ++ [⟨s.bd.e, s.bd.dir⟩] } }) ∧
    (s.released = true → 4 ≤ s.bd.marks.length →
      exec .markCapture s = .next (reportFault .markOverflow .none (.number s.bd.e) edge)) ∧
    (s.released = false → exec .markCapture s = .next edge)

/-- A BD evaluation: the oldest mark corrects the positions or, beyond the slip limit of a referenced boat, is BOAT-SLIP and stops
the move; a following error above the stall limit is BOAT-STALL and stops it; the droop sets speed factor and droop wait; and a
move that has arrived ends with BOAT-ARRIVED. A stop may complete a step before RS takes the abort order of its fault: which comes
first is a free choice of the model (log 13), and an order that came second meets what the completion left. That a boat with C at its
target counts as not moving inward is the model's inference (log 15). An abort order that waits for the evaluation (log 35) is taken
before a fault of the evaluation, which then meets the abort, or else after it. An applied speed in every motion state with a target
outstanding is the model's (log 40). Pulsing that becomes allowed at the end of DROOP-WAIT or by a mark correction begins with the
pulse interval timer at 0. And the motion state by its table, the following
error, and the droop over the door-end zones that count. -/
def Obligations.BdEvaluated : Prop :=
  (∀ s : State,
    (s.rs.run = .held → s.motion = .held) ∧ (s.rs.run ≠ .held → s.bd.move = none → s.motion = .rest) ∧
    (s.rs.run ≠ .held → s.bd.move.isSome →
      (s.bd.gate ≠ .opened → s.motion = .gated) ∧
      (s.bd.gate = .opened → s.bd.droopWait = true → s.motion = .droopWait) ∧
      (s.bd.gate = .opened → s.bd.droopWait = false → s.motion = .moving)) ∧
    (s.pulsing = true ↔ s.motion = .moving ∧ ∃ m, s.bd.move = some m ∧ s.bd.c ≠ m.target) ∧
    s.followingError = (s.bd.c : Int) - s.bd.e ∧
    let counts := fun (z : Zone) (d : Int) => (z = .z1 ∨ z = .z2) ∧ s.used z = true ∧
      ((s.zoneM z).state = .normal ∨ (s.zoneM z).state = .degraded) ∧
      ∃ spi m, (s.zoneC z).spi = some spi ∧ (s.zoneM z).measured = some m ∧ d = (spi / 120 : Nat) - m
    (∀ z d, counts z d → d ≤ s.doorDroop) ∧ ((∃ z d, counts z d) → ∃ z, counts z s.doorDroop) ∧
    ((¬ ∃ z d, counts z d) → s.doorDroop = 0)) ∧
  (∀ s : State,
    (s.released = false → exec .bdEvaluation s = .next (takeWaitingOrder s)) ∧
    (s.released = true →
      let u := arrivalStage (droopStage (stallStage (markStage { s with bd := { s.bd with phase := .running 100 } })))
      let e := if s.boatArrived = u.boatArrived then u else evaluate u
      let off : State := { e with rs := { e.rs with abortOrdered := false } }
      exec .bdEvaluation s = .next (takeWaitingOrder e) ∨
      s.rs.abortOrdered = false ∧ s.orderMeets = true ∧ e.rs.abortOrdered = true ∧ e.rs.run ≠ .idle ∧ e.rs.run ≠ .aborting ∧
        (exec .bdEvaluation s = .next (enterAborting { off with free := e.free + 1 }) ∨
          exec .bdEvaluation s = .next { e with free := e.free + 1 }))) ∧
  (∀ s : State,
    let stopped := fun u : State => if u.bd.move.isSome then
      ({ u with bd := { u.bd with move := none, droopWait := false, c := u.bd.e } } : State) else u
    let faultStops := fun (k : FaultKind) (v : Int) (before t : State) =>
      let u := takeWaitingOrder before
      let f : State := { u with
        fl := placeFault ⟨k, .abort, .none, if u.rs.run = .idle then none else u.rs.labelInForce,
          if u.rs.run = .idle then none else some u.rs.clock, .number v⟩ u.fl
        lp := { u.lp with events := addEvent .fault u.lp.events } }
      t.bd.move = none ∧ .fault ∈ t.lp.events ∧
      (u.bd.move = none → t.withoutReactions = (reportFault k .none (.number v) u).withoutReactions) ∧
      (u.bd.move.isSome →
        (u.rs.run = .idle ∨ u.rs.run = .aborting → t.withoutReactions = (stopped f).withoutReactions) ∧
        (u.rs.run ≠ .idle → u.rs.run ≠ .aborting →
          t.withoutReactions = (enterAborting { f with free := f.free + 1 }).withoutReactions ∨
          t.withoutReactions = (stopped { f with
            rs := { f.rs with abortOrdered := true }, free := f.free + 1 }).withoutReactions))
    let tested : Prop := s.bd.move.isSome ∧ s.rs.run ≠ .held
    let timerFollows := fun u : State =>
      (s.pulsing = false → u.pulsing = true → u.bd.pulse = some 0) ∧ (s.pulsing = true → u.pulsing = false → u.bd.pulse = none) ∧
      (s.pulsing = u.pulsing → u.bd.pulse = s.bd.pulse)
    (s.bd.marks = [] → markStage s = s) ∧
    (∀ m rest, s.bd.marks = m :: rest →
      let diff : Int := m.position - s.image.pRef
      let fit := fun x : Nat => (max 0 (min 20000 ((x : Int) - diff))).toNat
      (s.bd.referenced = true → s.image.slipLimit < diff.natAbs →
        faultStops .boatSlip diff { s with bd := { s.bd with
          marks := rest, lastMark := some ⟨m.position, m.direction, diff, .slip⟩ } } (markStage s)) ∧
      (s.bd.referenced = false ∨ diff.natAbs ≤ s.image.slipLimit →
        (markStage s).withoutReactions = { s with bd := { s.bd with
          marks := rest, e := fit s.bd.e, c := fit s.bd.c, referenced := true
          lastMark := some ⟨m.position, m.direction, diff, .rebase⟩ } }.withoutReactions ∧ timerFollows (markStage s))) ∧
    (tested → s.image.stallLimit < s.followingError.natAbs →
      faultStops .boatStall s.followingError s (stallStage s)) ∧
    (¬ tested ∨ s.followingError.natAbs ≤ s.image.stallLimit → stallStage s = s) ∧
    (¬ tested → droopStage s = s ∧ arrivalStage s = s) ∧ timerFollows (droopStage s) ∧
    (∀ m, s.bd.move = some m → s.rs.run ≠ .held →
      (s.bd.c < m.target → 0 < m.droop →
        let row := droopRow s.bd.droopWait s.bd.factor m.droop s.doorDroop
        (droopStage s).withoutReactions = { s with bd := { s.bd with
          factor := row.1, droopWait := row.2, droop := some s.doorDroop } }.withoutReactions) ∧
      (m.target ≤ s.bd.c ∨ m.droop = 0 → (droopStage s).withoutReactions =
        { s with bd := { s.bd with factor := .full, droopWait := false, droop := none } }.withoutReactions) ∧
      (s.bd.c = m.target → s.followingError.natAbs ≤ 5 →
        (arrivalStage s).withoutReactions =
          { s with bd := { s.bd with move := none, droopWait := false } }.withoutReactions ∧
        .boatArrived ∈ (arrivalStage s).lp.events ∧ (arrivalStage s).bd.pulse = none) ∧
      (s.bd.c ≠ m.target ∨ 5 < s.followingError.natAbs → arrivalStage s = s))) ∧
  (∀ (f : SpeedFactor) (l : Nat) (d : Int),
    (d ≤ (l / 2 : Nat) → ∀ w, droopRow w f l d = (.full, false)) ∧
    ((l / 2 : Nat) < d → droopRow true f l d = (f, true)) ∧
    ((l / 2 : Nat) < d → d ≤ (3 * l / 4 : Nat) → droopRow false f l d = (.half, false)) ∧
    ((3 * l / 4 : Nat) < d → d ≤ l → droopRow false f l d = (.quarter, false)) ∧
    (l < d → droopRow false f l d = (f, true))) ∧
  (∀ (s : State) (m : BoatPart), s.bd.move = some m → 10 ≤ m.speed → m.speed ≤ 600 → ∃ v,
    s.appliedSpeed = some v ∧ s.pulseInterval = some (6000000 / v) ∧ 2 ≤ v ∧ v ≤ 600 ∧
    v = m.speed * (match s.bd.factor with
      | .full => 4
      | .half => 2
      | .quarter => 1) / 4)

/-! ### Peer view and curtailment -/

/-- An ANNOUNCE of a peer: a body outside its ranges is counted and changes no entry; any other replaces its station's entry or
makes a new one; in JOINING its level may be adopted; the link hears the peer. With the own number it is ADDRESS-CLASH. A frame
begins on an idle line, or is the one in which BL stopped transmitting; on any other line it is no frame and only restarts the idle
count. Entries go STALE and leave the view. -/
def Obligations.AnnounceTaken : Prop :=
  (∀ (s : State) (code : StationCode) (b : AnnounceBody),
    let receives : Prop := s.bl.phase ≠ .inactive ∧ (s.bl.line = .idle ∨ s.bl.line = .busy ∧ s.bl.attempt = none)
    (¬ receives → exec (.announceReceived code b) s = .next { s with bl := { s.bl with line :=
      match s.bl.line with
      | .idle | .recessive _ => .recessive 0
      | other => other } }) ∧
    (receives → code.toNat + 1 = s.image.station → exec (.announceReceived code b) s =
      .next (reportFault .addressClash (.station s.image.station) (.number s.image.station)
        { s with bl := { s.bl with line := .recessive 0 } })) ∧
    (receives → code.toNat + 1 ≠ s.image.station →
      let u : State := { s with
        bl := { s.bl with line := .recessive 0, silence := .running (5 * s.image.announcePeriod), isolated := false }
        free := if s.bl.isolated then s.free + 1 else s.free }
      (s.bl.isolated = true → ∀ t : State, exec (.announceReceived code b) s = .next t → .link ∈ t.lp.events) ∧
      (readAnnounce (code.toNat + 1) b = none → ∃ t : State, exec (.announceReceived code b) s = .next t ∧
        t.withoutReactions = { u with
          bu := { s.bu with contentErrors := satSucc 65535 s.bu.contentErrors } }.withoutReactions) ∧
      (∀ e, readAnnounce (code.toNat + 1) b = some e → ∃ t : State, exec (.announceReceived code b) s = .next t ∧
        t.withoutReactions = { u with bu := { s.bu with
          view := insertEntry e s.bu.view
          level :=
            if s.bl.phase = LinkPhase.joining ∧ s.image.curtailSource = false ∧ s.bu.frameHeard = false ∧
              e.level.percent < s.bu.level.percent then e.level else s.bu.level } }.withoutReactions))) ∧
  (∀ (n : Nat) (b : AnnounceBody),
    ((readAnnounce n b).isSome ↔ b.heaterFloor.toNat ≤ b.heaterWant.toNat ∧ b.heaterWant.toNat ≤ 4000 ∧
      b.heaterHeld.toNat ≤ 4000 ∧ b.purgeFloor.toNat ≤ b.purgeWant.toNat ∧ b.purgeWant.toNat ≤ 2400 ∧
      b.purgeHeld.toNat ≤ 2400 ∧ b.rank.toNat ≤ 3 ∧ b.runSummary.toNat ≤ 4 ∧ b.level.toNat ∈ [100, 75, 50, 25]) ∧
    (∀ e, readAnnounce n b = some e → e.station = n ∧
      e.heater = ⟨b.heaterFloor.toNat, b.heaterWant.toNat, b.heaterHeld.toNat⟩ ∧
      e.purge = ⟨b.purgeFloor.toNat, b.purgeWant.toNat, b.purgeHeld.toNat⟩ ∧ e.rank = b.rank.toNat ∧
      e.summary.code = b.runSummary.toNat ∧ e.level.percent = b.level.toNat ∧ e.age = 0 ∧ e.stale = false)) ∧
  (∀ (e : ViewEntry) (view : List ViewEntry), view.Pairwise (·.station < ·.station) →
    ∀ x, x ∈ insertEntry e view ↔ x = e ∨ x ∈ view ∧ x.station ≠ e.station) ∧
  (∀ (s : State) (n : Nat),
    (∃ t : State, exec (.entryStale n) s = .next t ∧ t.withoutReactions = { s with bu := { s.bu with
      view := s.bu.view.map fun e : ViewEntry => if e.station = n ∧ e.stale = false then
        { e with stale := true, age := max e.age (3 * s.image.announcePeriod) } else e } }.withoutReactions) ∧
    (∃ t : State, exec (.entryRemoved n) s = .next t ∧ t.withoutReactions =
      { s with bu := { s.bu with view := s.bu.view.filter fun e : ViewEntry => decide (e.station ≠ n) } }.withoutReactions))

/-- Curtailment: a CURTAIL of a peer sets the level and is acknowledged; a CURTAIL-ACK takes its station out of a matching
collection; the source's inputs start, restart and stop the debounce timer, whose end adopts them and queues a CURTAIL; and an
ack timer that runs out reports the stations still awaited. That a debounce timer that has run out is stopped is the model's (log 42). -/
def Obligations.CurtailTaken : Prop :=
  (∀ (s : State) (code : StationCode) (level origin : Byte),
    let receives : Prop := s.bl.phase ≠ .inactive ∧ (s.bl.line = .idle ∨ s.bl.line = .busy ∧ s.bl.attempt = none)
    (¬ receives →
      let unheard : State := { s with bl := { s.bl with line :=
        match s.bl.line with
        | .idle | .recessive _ => .recessive 0
        | other => other } }
      exec (.curtailReceived code level) s = .next unheard ∧
      exec (.curtailAckReceived code level origin) s = .next unheard) ∧
    (receives → code.toNat + 1 = s.image.station →
      let clash := reportFault .addressClash (.station s.image.station) (.number s.image.station)
        { s with bl := { s.bl with line := .recessive 0 } }
      exec (.curtailReceived code level) s = .next clash ∧ exec (.curtailAckReceived code level origin) s = .next clash) ∧
    (receives → code.toNat + 1 ≠ s.image.station →
      let u : State := { s with
        bl := { s.bl with line := .recessive 0, silence := .running (5 * s.image.announcePeriod), isolated := false }
        free := if s.bl.isolated then s.free + 1 else s.free }
      let counted : State := { u with bu := { s.bu with contentErrors := satSucc 65535 s.bu.contentErrors } }
      (readLevel level = none → ∃ t : State, exec (.curtailReceived code level) s = .next t ∧
        t.withoutReactions = counted.withoutReactions) ∧
      (∀ l, readLevel level = some l → ∃ t : State, exec (.curtailReceived code level) s = .next t ∧
        t.withoutReactions = { u with
          bu := { s.bu with level := l, frameHeard := true }
          bl := { u.bl with
            ackSlot := some ⟨l, code.toNat + 1⟩
            attempt := s.bl.attempt.map fun a : Attempt =>
              if a.frame.code = 2 then { a with replaced := true } else a } }.withoutReactions ∧ (l ≠ s.bu.level → .curtail ∈ t.lp.events)) ∧
      (readLevel level = none ∨ origin.toNat = 0 ∨ 8 < origin.toNat → ∃ t : State,
        exec (.curtailAckReceived code level origin) s = .next t ∧ t.withoutReactions = counted.withoutReactions) ∧
      (∀ l, readLevel level = some l → 1 ≤ origin.toNat → origin.toNat ≤ 8 → ∃ t : State,
        exec (.curtailAckReceived code level origin) s = .next t ∧
        (∀ c, s.bu.collection = some c → l = c.level → origin.toNat = s.image.station →
          let left := c.expected.erase (code.toNat + 1)
          t.withoutReactions = { u with bu := { s.bu with
            collection := if left = [] then none else some { c with expected := left } } }.withoutReactions) ∧
        (s.bu.collection = none ∨ (∃ c, s.bu.collection = some c ∧ (l ≠ c.level ∨ origin.toNat ≠ s.image.station)) →
          t.withoutReactions = u.withoutReactions)))) ∧
  (∀ (b : Byte) (l : Level), readLevel b = some l ↔ b.toNat = l.percent) ∧
  [Level.l100, .l75, .l50, .l25].map Level.percent = [100, 75, 50, 25] ∧
  (inputLevel false false = .l100 ∧ inputLevel false true = .l75 ∧ inputLevel true false = .l50 ∧ inputLevel true true = .l25) ∧
  (∀ s : State, s.inputLevel = inputLevel s.pins.cl1 s.pins.cl0) ∧
  (∀ (s : State) (cl1 cl0 : Bool),
    let pins : State := { s with pins := { s.pins with cl1 := cl1, cl0 := cl0 } }
    (s.released = false ∨ s.image.curtailSource = false ∨ inputLevel cl1 cl0 = s.inputLevel →
      exec (.curtailInputChange cl1 cl0) s = .next pins) ∧
    (s.released = true → s.image.curtailSource = true → inputLevel cl1 cl0 ≠ s.inputLevel →
      exec (.curtailInputChange cl1 cl0) s = .next { pins with bu := { s.bu with
        debounce := if inputLevel cl1 cl0 = s.bu.debounced then .stopped else .running 100 } })) ∧
  (∀ s : State,
    (∀ n, s.bu.debounce = .running n → ∃ t : State, exec .debounceTimerExpiry s = .next t ∧
      t.withoutReactions = { s with
        bu := { s.bu with
          level := s.inputLevel, debounced := s.inputLevel, debounce := .stopped, collection := none }
        bl := { s.bl with
          curtailSlot := some s.inputLevel
          attempt := s.bl.attempt.map fun a : Attempt =>
            if a.frame.code = 1 then { a with replaced := true } else a } }.withoutReactions ∧ (s.inputLevel ≠ s.bu.level → .curtail ∈ t.lp.events)) ∧
    (s.bu.debounce = .stopped → exec .debounceTimerExpiry s = .next s) ∧
    (∀ c n, s.bu.collection = some c → c.timer = .running n → c.expected ≠ [] → exec .ackTimerExpiry s =
      .next { s with
        bu := { s.bu with collection := none }
        fl := placeFault ⟨.curtailUnconfirmed, .note, .stations c.expected,
          if s.rs.run = .idle then none else s.rs.labelInForce,
          if s.rs.run = .idle then none else some s.rs.clock, .stations c.expected⟩ s.fl
        lp := { s.lp with events := addEvent .fault s.lp.events } }) ∧
    (s.bu.collection = none → exec .ackTimerExpiry s = .next s))

/-! ### Bank line -/

/-- What the bank line gives up: a malformed frame or one whose CRC fails is discarded and counted, a frame of another kind is
dropped without counting and still tells of its peer, even with the own number without ADDRESS-CLASH (log 34, the model's inference).
What comes on a line that is not idle is no frame: like a glitch it is not counted and only restarts the idle count. The idle count
ends in an idle line; that it restarts after a frame of a length above 15 and stands still in an attempt of the part's own is the
model's choice (log 10). The check, bit by bit, and the frames that the part itself sends: their bytes by kind, which pass every check and say
who sent them, and their cells, the SOF and then each byte most significant bit first. What a sender drives in a cell, that dominant
overrides recessive, and the bit every station reads 4 µs into it; a receiver of all the cells has the frame, one of fewer meets an
early end. With no attempt the part drives nothing. -/
def Obligations.FramesChecked : Prop :=
  (∀ s : State, s.bl.phase = .inactive ∨ s.bl.line ≠ .idle ∧ ¬ (s.bl.line = .busy ∧ s.bl.attempt = none) →
    let unheard : State := { s with bl := { s.bl with line :=
      match s.bl.line with
      | .idle | .recessive _ => .recessive 0
      | other => other } }
    (∀ f, frameDiscarded f = true → exec (.bankFrameError f) s = .next unheard) ∧
    (∀ (kind : BitVec 3) (code : StationCode) body, kind ∉ [1#3, 2#3, 4#3] →
      exec (.otherKindFrame kind code body) s = .next unheard)) ∧
  (∀ s : State, s.bl.phase ≠ .inactive →
    (s.bl.attempt = none → exec .lineIdle s = .next { s with bl := { s.bl with line := .idle } }) ∧
    (s.bl.attempt.isSome → exec .lineIdle s = .next s)) ∧
  (∀ s : State, s.bl.phase = .inactive → exec .lineIdle s = .next s) ∧
  (∀ s : State, s.bl.phase ≠ .inactive → s.bl.line = .idle ∨ s.bl.line = .busy ∧ s.bl.attempt = none →
    (∀ f, frameDiscarded f = true → exec (.bankFrameError f) s = .next { s with
      bl := { s.bl with line := .recessive 0, rxErrors := satSucc 65535 s.bl.rxErrors } }) ∧
    (∀ (kind : BitVec 3) (code : StationCode) body, kind ∉ [1#3, 2#3, 4#3] →
      (code.toNat + 1 = s.image.station →
        exec (.otherKindFrame kind code body) s = .next { s with bl := { s.bl with line := .recessive 0 } }) ∧
      (code.toNat + 1 ≠ s.image.station → ∃ t : State, exec (.otherKindFrame kind code body) s = .next t ∧
        t.withoutReactions = { s with bl := { s.bl with
          line := .recessive 0, silence := .running (5 * s.image.announcePeriod), isolated := false } }.withoutReactions ∧
        (s.bl.isolated = true → .link ∈ t.lp.events)))) ∧
  (∀ s : State, exec .bankLineGlitch s = .next { s with bl := { s.bl with line :=
    match s.bl.line with
    | .idle | .recessive _ => .recessive 0
    | other => other } }) ∧
  (∀ (header length : Byte) (body : List Byte) (check : BitVec 16),
    frameDiscarded (.badLength header length) = true ∧ frameDiscarded (.earlyEnd body) = true ∧
    (frameDiscarded (.complete header length body check) = false ↔
      length.toNat ≤ 15 ∧ header.extractLsb' 0 2 = 3#2 ∧ check = crc16 (header :: length :: body) ∧
      (header.extractLsb' 5 3 = 1#3 → length.toNat = 1) ∧ (header.extractLsb' 5 3 = 2#3 → length.toNat = 2) ∧
      (header.extractLsb' 5 3 = 4#3 → length.toNat = 15))) ∧
  (∀ (n : Nat) (f : OwnFrame), 1 ≤ n → n ≤ 8 → ∃ (header length : Byte) (check : BitVec 16),
    f.bytes n = header :: length :: f.body ++ bytes16 check ∧ length.toNat = f.body.length ∧
    frameDiscarded (.complete header length f.body check) = false ∧
    header.extractLsb' 5 3 = f.code ∧ stationNumber (header.extractLsb' 2 3) = n ∧
    (let cells := f.cells n
     cells.length = 1 + 8 + 8 + 8 * f.body.length + 16 ∧ cells[0]? = some .sof ∧
     (∀ i j, i < (f.bytes n).length → j < 8 → cells[1 + 8 * i + j]? = some (.bit ((byteAt (f.bytes n) i).getLsbD (7 - j)))) ∧
     readFrame (cells.tail.map Cell.asSent) = .complete header length f.body check ∧
     ∀ k, k < 8 * (f.bytes n).length → ∃ bytes, readFrame ((cells.tail.map Cell.asSent).take k) = .earlyEnd bytes)) ∧
  (crc16 [] = 0xFFFF#16 ∧ crc16 [0x31, 0x32, 0x33, 0x34, 0x35, 0x36, 0x37, 0x38, 0x39] = 0x29B1#16 ∧
    ∀ (bs : List Byte) (b : Byte), crc16 (bs ++ [b]) = [7, 6, 5, 4, 3, 2, 1, 0].foldl (fun (r : BitVec 16) i =>
      if r.getLsbD 15 = b.getLsbD i then r <<< 1 else (r <<< 1) ^^^ 0x1021#16) (crc16 bs)) ∧
  (∀ (l : Level) (o : Nat) (b : AnnounceBody),
    let hi := fun w : BitVec 16 => w.extractLsb' 8 8
    let lo := fun w : BitVec 16 => w.extractLsb' 0 8
    (OwnFrame.curtail l).code = 1#3 ∧ (OwnFrame.ack l o).code = 2#3 ∧ (OwnFrame.announce b).code = 4#3 ∧
    (OwnFrame.curtail l).body = [BitVec.ofNat 8 l.percent] ∧
    (OwnFrame.ack l o).body = [BitVec.ofNat 8 l.percent, BitVec.ofNat 8 o] ∧
    (OwnFrame.announce b).body = [hi b.heaterFloor, lo b.heaterFloor, hi b.heaterWant, lo b.heaterWant, hi b.heaterHeld,
      lo b.heaterHeld, hi b.purgeFloor, lo b.purgeFloor, hi b.purgeWant, lo b.purgeWant, hi b.purgeHeld, lo b.purgeHeld,
      b.rank, b.runSummary, b.level]) ∧
  (∀ us, us < 8 → Cell.sof.drivesAt us = true ∧ ((Cell.bit true).drivesAt us = true ↔ us < 2) ∧
    ((Cell.bit false).drivesAt us = true ↔ us < 6)) ∧
  (∀ (stations : List (Option Cell)) (us : Nat),
    (lineDominant stations us = true ↔ ∃ c, some c ∈ stations ∧ c.drivesAt us = true) ∧
    lineRead stations = !lineDominant stations 4) ∧
  (∀ (bit : Bool) (others : List (Option Cell)), lineRead (some (.bit bit) :: others) = (bit && lineRead others)) ∧
  (∀ s : State,
    (s.bl.attempt = none → s.frameInFlight = none) ∧
    (∀ a, s.bl.attempt = some a → s.frameInFlight = some (a.frame.bytes s.image.station)) ∧
    (s.bl.attempt = none → ∀ us, s.drivesBankLine us = false) ∧
    (∀ a, s.bl.attempt = some a → ∀ i us, us < 8 →
      s.drivesBankLine (8 * i + us) = (a.frame.cells s.image.station)[i]?.any (·.drivesAt us)))

/-- The attempts of the bank line: when one starts and with which frame, what a lost arbitration and an abandonment leave, the
MUTE that the eighth abandonment in a row brings, and what a completion does for each kind of frame. By the bits read back in the
cells, an attempt ends at the first that differs from the bit sent: a header cell in which a 1 was sent loses arbitration, any other,
the SOF among them, is a bit error; with none it completes. That the line is busy through an
attempt (log 10) and stays busy after a lost arbitration or an abandonment, BL reading on in the frame until its end reaches the part
as a frame command or the line is idle (log 32), is the model's. -/
def Obligations.AttemptsMade : Prop :=
  ∀ s : State,
    (s.bl.phase = .on → s.bl.mute = false → s.bl.attempt = none → s.bl.line = .idle →
      let start := fun f : OwnFrame => ({ s with bl := { s.bl with attempt := some ⟨f, false⟩, line := .busy } } : State)
      (∀ l, s.bl.curtailSlot = some l → exec .attemptStart s = .next (start (.curtail l))) ∧
      (∀ a, s.bl.curtailSlot = none → s.bl.ackSlot = some a →
        exec .attemptStart s = .next (start (.ack a.level a.origin))) ∧
      (s.bl.curtailSlot = none → s.bl.ackSlot = none → s.bl.announceSlot = true →
        exec .attemptStart s = .next (start (.announce {
          heaterFloor := BitVec.ofNat 16 s.bu.heater.floor
          heaterWant := BitVec.ofNat 16 s.bu.heater.want
          heaterHeld := BitVec.ofNat 16 (max (s.computedGrant .heater) s.bu.heldHeater)
          purgeFloor := BitVec.ofNat 16 s.bu.purge.floor
          purgeWant := BitVec.ofNat 16 s.bu.purge.want
          purgeHeld := BitVec.ofNat 16 (max (s.computedGrant .purge) s.bu.heldPurge)
          rank := BitVec.ofNat 8 s.rank
          runSummary := BitVec.ofNat 8 s.rs.run.code
          level := BitVec.ofNat 8 s.bu.level.percent }))) ∧
      (s.bl.curtailSlot = none → s.bl.ackSlot = none → s.bl.announceSlot = false → exec .attemptStart s = .next s)) ∧
    (s.bl.phase ≠ .on ∨ s.bl.mute = true ∨ s.bl.attempt.isSome ∨ s.bl.line ≠ .idle → exec .attemptStart s = .next s) ∧
    exec .arbitrationLost s = .next { s with bl := { s.bl with attempt := none } } ∧
    (s.bl.attempt = none → exec .attemptAbandoned s = .next s ∧ exec .transmitCompletion s = .next s) ∧
    (s.bl.attempt.isSome → s.bl.abandons < 7 → exec .attemptAbandoned s = .next { s with bl := { s.bl with
      attempt := none, abandons := s.bl.abandons + 1 } }) ∧
    (s.bl.attempt.isSome → s.bl.abandons = 7 → exec .attemptAbandoned s = .next { s with
      bl := { s.bl with
        attempt := none, abandons := 8, mute := true, muteTimer := .running 5000 }
      fl := placeFault ⟨.linkMute, .note, .none, if s.rs.run = .idle then none else s.rs.labelInForce,
        if s.rs.run = .idle then none else some s.rs.clock, .absent⟩ s.fl
      lp := { s.lp with events := addEvent .link (addEvent .fault s.lp.events) } }) ∧
    (∀ a, s.bl.attempt = some a →
      let ended : State := { s with bl := { s.bl with attempt := none, abandons := 0, line := .recessive 0 } }
      (∀ b, a.frame = .announce b → ∃ t : State, exec .transmitCompletion s = .next t ∧
        t.withoutReactions = ended.withoutReactions ∧ t.bd.pulse = s.bd.pulse ∧ t.lp.events = s.lp.events ∧
        t.zc.capSeen = s.zc.capSeen ∧
        t.bu.heldHeater = max s.bu.heldHeater (min b.heaterHeld.toNat (s.computedGrant .heater)) ∧
        t.bu.heldPurge = max s.bu.heldPurge (min b.purgeHeld.toNat (s.computedGrant .purge)) ∧
        (t.bl.announceSlot = true ↔
          t.bu.heldHeater < s.computedGrant .heater ∨ t.bu.heldPurge < s.computedGrant .purge)) ∧
      (∀ l, a.frame = .curtail l → a.replaced = false →
        let fresh := (s.bu.view.filter fun e => !e.stale).map (·.station)
        exec .transmitCompletion s = .next { ended with
          bl := { ended.bl with curtailSlot := none }
          bu := { s.bu with collection := if fresh = [] then none else some ⟨l, fresh, .running 500⟩ } }) ∧
      (∀ l o, a.frame = .ack l o → a.replaced = false →
        exec .transmitCompletion s = .next { ended with bl := { ended.bl with ackSlot := none } }) ∧
      ((∃ l, a.frame = .curtail l) ∨ (∃ l o, a.frame = .ack l o) → a.replaced = true →
        exec .transmitCompletion s = .next ended)) ∧
    (s.bl.attempt = none → ∀ bits, s.attemptEnd bits = none) ∧
    (∀ a, s.bl.attempt = some a →
      let sent := (a.frame.cells s.image.station).map Cell.asSent
      s.attemptEnd sent = some .transmitCompletion ∧
      (∀ i, i < sent.length → s.attemptEnd (sent.take i) = none ∧
        ∀ later, s.attemptEnd (sent.take i ++ (!sent.getD i false) :: later) = some (
          if 1 ≤ i ∧ i ≤ 8 ∧ sent.getD i false = true then .arbitrationLost else .attemptAbandoned)))

/-- The link's timers at their ends: the announce timer queues an ANNOUNCE and runs on, the listen timer ends JOINING, the silence
timer brings ISOLATED in a bank of more than one, the mute timer ends MUTE. And the link state reported, by phase, ISOLATED and MUTE. That
a listen or mute timer that has run out is stopped is the model's (log 42). -/
def Obligations.LinkTimersExpire : Prop :=
  (∀ s : State,
    (s.bl.phase = .inactive → s.linkState = .inactive) ∧ (s.bl.phase = .joining → s.linkState = .joining) ∧
    (s.bl.phase = .on → s.linkState =
      if s.bl.isolated then if s.bl.mute then .isolatedMute else .isolated else if s.bl.mute then .mute else .normal)) ∧
  ∀ (s : State) (n : Nat),
    (s.bl.announce = .running n → exec .announceTimerExpiry s = .next { s with bl := { s.bl with
      announceSlot := true, announce := .running s.image.announcePeriod } }) ∧
    (s.bl.announce = .stopped → exec .announceTimerExpiry s = .next s) ∧
    (s.bl.phase = .joining → s.bl.listen = .running n → exec .listenTimerExpiry s = .next { s with
      cl := { s.cl with startup := .ready }
      bl := { s.bl with
        phase := .on, listen := .stopped, announceSlot := true, announce := .running s.image.announcePeriod }
      lp := { s.lp with events := addEvent .link s.lp.events } }) ∧
    (s.bl.phase ≠ .joining → exec .listenTimerExpiry s = .next s) ∧
    (s.bl.phase = .on → s.bl.silence = .running n → 1 < s.image.bankSize → ∃ t : State,
      exec .silenceTimerExpiry s = .next t ∧ .link ∈ t.lp.events ∧
      t.withoutReactions = { s with bl := { s.bl with silence := .expired, isolated := true } }.withoutReactions) ∧
    (s.bl.phase = .on → s.bl.silence = .running n → s.image.bankSize ≤ 1 →
      exec .silenceTimerExpiry s = .next { s with bl := { s.bl with silence := .expired } }) ∧
    (s.bl.phase ≠ .on → exec .silenceTimerExpiry s = .next s) ∧
    (s.bl.mute = true → s.bl.muteTimer = .running n → exec .muteTimerExpiry s = .next { s with
      bl := { s.bl with mute := false, muteTimer := .stopped, abandons := 0 }
      lp := { s.lp with events := addEvent .link s.lp.events } }) ∧
    (s.bl.mute = false → exec .muteTimerExpiry s = .next s)

/-! ### Shares -/

/-- The own rank, the effective budget and the computed grant at every moment: the grant is never above the own want nor above the
effective budget; where the floors fill the budget it is the scaled floor, where they leave a remainder it is the own floor and the
own extra out of that remainder by rank (StackSharesAddUp says how much that is), and ISOLATED it is the equal part. -/
def Obligations.OwnShare : Prop :=
  ∀ (s : State) (p : Supply),
    let floor := (s.ownDemand p).floor
    let want := (s.ownDemand p).want
    let others := ((s.peersCounted p).map (·.floor)).sum
    (s.released = true → s.rank = match s.rs.run with
      | .aborting => 3
      | .idle => 0
      | _ => if s.image.pMouth ≤ s.bd.e then 2 else 1) ∧
    (s.released = false → s.rank = 0) ∧
    s.beff .heater = s.image.heaterBudget * s.bu.level.percent / 100 ∧
    s.beff .purge = s.image.purgeBudget * s.bu.level.percent / 100 ∧
    (s.bl.isolated = true → s.computedGrant p = min want (s.beff p / s.image.bankSize)) ∧
    (s.bl.isolated = false →
      (s.beff p = 0 → s.computedGrant p = 0) ∧
      (0 < s.beff p → s.beff p ≤ floor + others → s.computedGrant p = s.beff p * floor / (floor + others)) ∧
      (floor + others < s.beff p → s.computedGrant p = floor +
        ownExtra ⟨floor, want - floor, s.rank⟩ (s.peersCounted p) [3, 2, 1, 0] (s.beff p - (floor + others)))) ∧
    (floor ≤ want → s.computedGrant p ≤ want ∧ s.computedGrant p ≤ s.beff p) ∧
    s.peersCounted p = s.bu.view.map fun e =>
      if e.stale then ⟨(e.supply p).held, 0, e.rank⟩ else ⟨(e.supply p).floor, (e.supply p).want - (e.supply p).floor, e.rank⟩

/-- The extra of the own station is what serving rank after rank from the highest down gives it: its whole extra where all of the
higher ranks and its own are served in full, its proportional part where its rank is the first that is not, nothing below. And
the grants that the stations of a stack compute from one agreed view add to at most the effective budget. -/
def Obligations.StackSharesAddUp : Prop :=
  (∀ (own : Counted) (peers : List Counted) (r : Nat), own.rank ≤ 3 →
    let above := (List.range 4).foldl (fun n k => if own.rank < k then n + rankExtra own peers k else n) 0
    let mine := rankExtra own peers own.rank
    ownExtra own peers [3, 2, 1, 0] r =
      if r < above then 0 else if mine ≤ r - above then own.extra else (r - above) * own.extra / mine) ∧
  (∀ (beff : Nat) (stations : List Counted),
    ((List.range stations.length).map fun i =>
      normalGrant beff (stations.getD i ⟨0, 0, 0⟩) (stations.eraseIdx i)).sum ≤ beff)
end

