-- ==== Sys2Proof/Laws/State.lean ====
section
/-!
SUPPORT. Beside State: for each shared operation, the blocks it leaves as they were, one lemma per block, and with them the
values the configuration in force gives.
-/
namespace Sys2Proof.Machine

/-! ### raiseEvent -/

@[simp] theorem raiseEvent_cl (k : EventKind) (s : State) : (raiseEvent k s).cl = s.cl := rfl
@[simp] theorem raiseEvent_rs (k : EventKind) (s : State) : (raiseEvent k s).rs = s.rs := rfl
@[simp] theorem raiseEvent_zm (k : EventKind) (s : State) : (raiseEvent k s).zm = s.zm := rfl
@[simp] theorem raiseEvent_zc (k : EventKind) (s : State) : (raiseEvent k s).zc = s.zc := rfl
@[simp] theorem raiseEvent_gc (k : EventKind) (s : State) : (raiseEvent k s).gc = s.gc := rfl
@[simp] theorem raiseEvent_bd (k : EventKind) (s : State) : (raiseEvent k s).bd = s.bd := rfl
@[simp] theorem raiseEvent_bu (k : EventKind) (s : State) : (raiseEvent k s).bu = s.bu := rfl
@[simp] theorem raiseEvent_bl (k : EventKind) (s : State) : (raiseEvent k s).bl = s.bl := rfl
@[simp] theorem raiseEvent_fl (k : EventKind) (s : State) : (raiseEvent k s).fl = s.fl := rfl
@[simp] theorem raiseEvent_pins (k : EventKind) (s : State) : (raiseEvent k s).pins = s.pins := rfl
@[simp] theorem raiseEvent_fuses (k : EventKind) (s : State) : (raiseEvent k s).fuses = s.fuses := rfl
@[simp] theorem raiseEvent_resetHeld (k : EventKind) (s : State) : (raiseEvent k s).resetHeld = s.resetHeld := rfl
@[simp] theorem raiseEvent_pending (k : EventKind) (s : State) : (raiseEvent k s).pending = s.pending := rfl
@[simp] theorem raiseEvent_free (k : EventKind) (s : State) : (raiseEvent k s).free = s.free := rfl
@[simp] theorem raiseEvent_released (k : EventKind) (s : State) : (raiseEvent k s).released = s.released := by simp [State.released]
@[simp] theorem raiseEvent_image (k : EventKind) (s : State) : (raiseEvent k s).image = s.image := by simp [State.image]
@[simp] theorem raiseEvent_used (k : EventKind) (s : State) (z : Zone) : (raiseEvent k s).used z = s.used z := by simp [State.used]

/-! ### boatReact -/

@[simp] theorem boatReact_cl (s0 s : State) : (boatReact s0 s).cl = s.cl := by
  unfold boatReact; dsimp only; split <;> split <;> rfl
@[simp] theorem boatReact_rs (s0 s : State) : (boatReact s0 s).rs = s.rs := by
  unfold boatReact; dsimp only; split <;> split <;> rfl
@[simp] theorem boatReact_zm (s0 s : State) : (boatReact s0 s).zm = s.zm := by
  unfold boatReact; dsimp only; split <;> split <;> rfl
@[simp] theorem boatReact_zc (s0 s : State) : (boatReact s0 s).zc = s.zc := by
  unfold boatReact; dsimp only; split <;> split <;> rfl
@[simp] theorem boatReact_gc (s0 s : State) : (boatReact s0 s).gc = s.gc := by
  unfold boatReact; dsimp only; split <;> split <;> rfl
@[simp] theorem boatReact_bu (s0 s : State) : (boatReact s0 s).bu = s.bu := by
  unfold boatReact; dsimp only; split <;> split <;> rfl
@[simp] theorem boatReact_bl (s0 s : State) : (boatReact s0 s).bl = s.bl := by
  unfold boatReact; dsimp only; split <;> split <;> rfl
@[simp] theorem boatReact_fl (s0 s : State) : (boatReact s0 s).fl = s.fl := by
  unfold boatReact; dsimp only; split <;> split <;> rfl
@[simp] theorem boatReact_pins (s0 s : State) : (boatReact s0 s).pins = s.pins := by
  unfold boatReact; dsimp only; split <;> split <;> rfl
@[simp] theorem boatReact_fuses (s0 s : State) : (boatReact s0 s).fuses = s.fuses := by
  unfold boatReact; dsimp only; split <;> split <;> rfl
@[simp] theorem boatReact_resetHeld (s0 s : State) : (boatReact s0 s).resetHeld = s.resetHeld := by
  unfold boatReact; dsimp only; split <;> split <;> rfl
@[simp] theorem boatReact_pending (s0 s : State) : (boatReact s0 s).pending = s.pending := by
  unfold boatReact; dsimp only; split <;> split <;> rfl
@[simp] theorem boatReact_free (s0 s : State) : (boatReact s0 s).free = s.free := by
  unfold boatReact; dsimp only; split <;> split <;> rfl
@[simp] theorem boatReact_released (s0 s : State) : (boatReact s0 s).released = s.released := by simp [State.released]
@[simp] theorem boatReact_image (s0 s : State) : (boatReact s0 s).image = s.image := by simp [State.image]
@[simp] theorem boatReact_used (s0 s : State) (z : Zone) : (boatReact s0 s).used z = s.used z := by simp [State.used]

/-! ### lowerGrants -/

@[simp] theorem lowerGrants_cl (s : State) : (lowerGrants s).cl = s.cl := rfl
@[simp] theorem lowerGrants_rs (s : State) : (lowerGrants s).rs = s.rs := rfl
@[simp] theorem lowerGrants_zm (s : State) : (lowerGrants s).zm = s.zm := rfl
@[simp] theorem lowerGrants_gc (s : State) : (lowerGrants s).gc = s.gc := rfl
@[simp] theorem lowerGrants_bd (s : State) : (lowerGrants s).bd = s.bd := rfl
@[simp] theorem lowerGrants_bl (s : State) : (lowerGrants s).bl = s.bl := rfl
@[simp] theorem lowerGrants_fl (s : State) : (lowerGrants s).fl = s.fl := rfl
@[simp] theorem lowerGrants_lp (s : State) : (lowerGrants s).lp = s.lp := rfl
@[simp] theorem lowerGrants_pins (s : State) : (lowerGrants s).pins = s.pins := rfl
@[simp] theorem lowerGrants_fuses (s : State) : (lowerGrants s).fuses = s.fuses := rfl
@[simp] theorem lowerGrants_resetHeld (s : State) : (lowerGrants s).resetHeld = s.resetHeld := rfl
@[simp] theorem lowerGrants_pending (s : State) : (lowerGrants s).pending = s.pending := rfl
@[simp] theorem lowerGrants_free (s : State) : (lowerGrants s).free = s.free := rfl
@[simp] theorem lowerGrants_released (s : State) : (lowerGrants s).released = s.released := by simp [State.released]
@[simp] theorem lowerGrants_image (s : State) : (lowerGrants s).image = s.image := by simp [State.image]
@[simp] theorem lowerGrants_used (s : State) (z : Zone) : (lowerGrants s).used z = s.used z := by simp [State.used]

/-! ### raiseCheck -/

@[simp] theorem raiseCheck_cl (s : State) : (raiseCheck s).cl = s.cl := by unfold raiseCheck; split <;> rfl
@[simp] theorem raiseCheck_rs (s : State) : (raiseCheck s).rs = s.rs := by unfold raiseCheck; split <;> rfl
@[simp] theorem raiseCheck_zm (s : State) : (raiseCheck s).zm = s.zm := by unfold raiseCheck; split <;> rfl
@[simp] theorem raiseCheck_zc (s : State) : (raiseCheck s).zc = s.zc := by unfold raiseCheck; split <;> rfl
@[simp] theorem raiseCheck_gc (s : State) : (raiseCheck s).gc = s.gc := by unfold raiseCheck; split <;> rfl
@[simp] theorem raiseCheck_bd (s : State) : (raiseCheck s).bd = s.bd := by unfold raiseCheck; split <;> rfl
@[simp] theorem raiseCheck_bu (s : State) : (raiseCheck s).bu = s.bu := by unfold raiseCheck; split <;> rfl
@[simp] theorem raiseCheck_fl (s : State) : (raiseCheck s).fl = s.fl := by unfold raiseCheck; split <;> rfl
@[simp] theorem raiseCheck_lp (s : State) : (raiseCheck s).lp = s.lp := by unfold raiseCheck; split <;> rfl
@[simp] theorem raiseCheck_pins (s : State) : (raiseCheck s).pins = s.pins := by unfold raiseCheck; split <;> rfl
@[simp] theorem raiseCheck_fuses (s : State) : (raiseCheck s).fuses = s.fuses := by unfold raiseCheck; split <;> rfl
@[simp] theorem raiseCheck_resetHeld (s : State) : (raiseCheck s).resetHeld = s.resetHeld := by unfold raiseCheck; split <;> rfl
@[simp] theorem raiseCheck_pending (s : State) : (raiseCheck s).pending = s.pending := by unfold raiseCheck; split <;> rfl
@[simp] theorem raiseCheck_free (s : State) : (raiseCheck s).free = s.free := by unfold raiseCheck; split <;> rfl
@[simp] theorem raiseCheck_released (s : State) : (raiseCheck s).released = s.released := by simp [State.released]
@[simp] theorem raiseCheck_image (s : State) : (raiseCheck s).image = s.image := by simp [State.image]
@[simp] theorem raiseCheck_used (s : State) (z : Zone) : (raiseCheck s).used z = s.used z := by simp [State.used]

/-! ### shareReact -/

@[simp] theorem shareReact_cl (s0 s : State) : (shareReact s0 s).cl = s.cl := by unfold shareReact; split <;> simp
@[simp] theorem shareReact_rs (s0 s : State) : (shareReact s0 s).rs = s.rs := by unfold shareReact; split <;> simp
@[simp] theorem shareReact_zm (s0 s : State) : (shareReact s0 s).zm = s.zm := by unfold shareReact; split <;> simp
@[simp] theorem shareReact_gc (s0 s : State) : (shareReact s0 s).gc = s.gc := by unfold shareReact; split <;> simp
@[simp] theorem shareReact_bd (s0 s : State) : (shareReact s0 s).bd = s.bd := by unfold shareReact; split <;> simp
@[simp] theorem shareReact_fl (s0 s : State) : (shareReact s0 s).fl = s.fl := by unfold shareReact; split <;> simp
@[simp] theorem shareReact_lp (s0 s : State) : (shareReact s0 s).lp = s.lp := by unfold shareReact; split <;> simp
@[simp] theorem shareReact_pins (s0 s : State) : (shareReact s0 s).pins = s.pins := by unfold shareReact; split <;> simp
@[simp] theorem shareReact_fuses (s0 s : State) : (shareReact s0 s).fuses = s.fuses := by unfold shareReact; split <;> simp
@[simp] theorem shareReact_resetHeld (s0 s : State) : (shareReact s0 s).resetHeld = s.resetHeld := by unfold shareReact; split <;> simp
@[simp] theorem shareReact_pending (s0 s : State) : (shareReact s0 s).pending = s.pending := by unfold shareReact; split <;> simp
@[simp] theorem shareReact_free (s0 s : State) : (shareReact s0 s).free = s.free := by unfold shareReact; split <;> simp
@[simp] theorem shareReact_released (s0 s : State) : (shareReact s0 s).released = s.released := by simp [State.released]
@[simp] theorem shareReact_image (s0 s : State) : (shareReact s0 s).image = s.image := by simp [State.image]
@[simp] theorem shareReact_used (s0 s : State) (z : Zone) : (shareReact s0 s).used z = s.used z := by simp [State.used]

/-! ### flowReact -/

@[simp] theorem flowReact_cl (s0 s : State) : (flowReact s0 s).cl = s.cl := rfl
@[simp] theorem flowReact_rs (s0 s : State) : (flowReact s0 s).rs = s.rs := rfl
@[simp] theorem flowReact_zm (s0 s : State) : (flowReact s0 s).zm = s.zm := rfl
@[simp] theorem flowReact_zc (s0 s : State) : (flowReact s0 s).zc = s.zc := rfl
@[simp] theorem flowReact_bd (s0 s : State) : (flowReact s0 s).bd = s.bd := rfl
@[simp] theorem flowReact_bu (s0 s : State) : (flowReact s0 s).bu = s.bu := rfl
@[simp] theorem flowReact_bl (s0 s : State) : (flowReact s0 s).bl = s.bl := rfl
@[simp] theorem flowReact_fl (s0 s : State) : (flowReact s0 s).fl = s.fl := rfl
@[simp] theorem flowReact_lp (s0 s : State) : (flowReact s0 s).lp = s.lp := rfl
@[simp] theorem flowReact_pins (s0 s : State) : (flowReact s0 s).pins = s.pins := rfl
@[simp] theorem flowReact_fuses (s0 s : State) : (flowReact s0 s).fuses = s.fuses := rfl
@[simp] theorem flowReact_resetHeld (s0 s : State) : (flowReact s0 s).resetHeld = s.resetHeld := rfl
@[simp] theorem flowReact_pending (s0 s : State) : (flowReact s0 s).pending = s.pending := rfl
@[simp] theorem flowReact_free (s0 s : State) : (flowReact s0 s).free = s.free := rfl
@[simp] theorem flowReact_released (s0 s : State) : (flowReact s0 s).released = s.released := by simp [State.released]
@[simp] theorem flowReact_image (s0 s : State) : (flowReact s0 s).image = s.image := by simp [State.image]
@[simp] theorem flowReact_used (s0 s : State) (z : Zone) : (flowReact s0 s).used z = s.used z := by simp [State.used]

/-! ### commit -/

@[simp] theorem commit_cl (s0 s : State) : (commit s0 s).cl = s.cl := by simp [commit]
@[simp] theorem commit_rs (s0 s : State) : (commit s0 s).rs = s.rs := by simp [commit]
@[simp] theorem commit_zm (s0 s : State) : (commit s0 s).zm = s.zm := by simp [commit]
@[simp] theorem commit_fl (s0 s : State) : (commit s0 s).fl = s.fl := by simp [commit]
@[simp] theorem commit_pins (s0 s : State) : (commit s0 s).pins = s.pins := by simp [commit]
@[simp] theorem commit_fuses (s0 s : State) : (commit s0 s).fuses = s.fuses := by simp [commit]
@[simp] theorem commit_resetHeld (s0 s : State) : (commit s0 s).resetHeld = s.resetHeld := by simp [commit]
@[simp] theorem commit_pending (s0 s : State) : (commit s0 s).pending = s.pending := by simp [commit]
@[simp] theorem commit_free (s0 s : State) : (commit s0 s).free = s.free := by simp [commit]
@[simp] theorem commit_released (s0 s : State) : (commit s0 s).released = s.released := by simp [State.released]
@[simp] theorem commit_image (s0 s : State) : (commit s0 s).image = s.image := by simp [State.image]
@[simp] theorem commit_used (s0 s : State) (z : Zone) : (commit s0 s).used z = s.used z := by simp [State.used]

/-! ### takeFault -/

@[simp] theorem takeFault_cl (k : FaultKind) (sub : FaultSubject) (v : FaultValue) (s : State) : (takeFault k sub v s).cl = s.cl := rfl
@[simp] theorem takeFault_rs (k : FaultKind) (sub : FaultSubject) (v : FaultValue) (s : State) : (takeFault k sub v s).rs = s.rs := rfl
@[simp] theorem takeFault_zm (k : FaultKind) (sub : FaultSubject) (v : FaultValue) (s : State) : (takeFault k sub v s).zm = s.zm := rfl
@[simp] theorem takeFault_zc (k : FaultKind) (sub : FaultSubject) (v : FaultValue) (s : State) : (takeFault k sub v s).zc = s.zc := rfl
@[simp] theorem takeFault_gc (k : FaultKind) (sub : FaultSubject) (v : FaultValue) (s : State) : (takeFault k sub v s).gc = s.gc := rfl
@[simp] theorem takeFault_bd (k : FaultKind) (sub : FaultSubject) (v : FaultValue) (s : State) : (takeFault k sub v s).bd = s.bd := rfl
@[simp] theorem takeFault_bu (k : FaultKind) (sub : FaultSubject) (v : FaultValue) (s : State) : (takeFault k sub v s).bu = s.bu := rfl
@[simp] theorem takeFault_bl (k : FaultKind) (sub : FaultSubject) (v : FaultValue) (s : State) : (takeFault k sub v s).bl = s.bl := rfl
@[simp] theorem takeFault_pins (k : FaultKind) (sub : FaultSubject) (v : FaultValue) (s : State) : (takeFault k sub v s).pins = s.pins := rfl
@[simp] theorem takeFault_fuses (k : FaultKind) (sub : FaultSubject) (v : FaultValue) (s : State) : (takeFault k sub v s).fuses = s.fuses := rfl
@[simp] theorem takeFault_resetHeld (k : FaultKind) (sub : FaultSubject) (v : FaultValue) (s : State) : (takeFault k sub v s).resetHeld = s.resetHeld := rfl
@[simp] theorem takeFault_pending (k : FaultKind) (sub : FaultSubject) (v : FaultValue) (s : State) : (takeFault k sub v s).pending = s.pending := rfl
@[simp] theorem takeFault_free (k : FaultKind) (sub : FaultSubject) (v : FaultValue) (s : State) : (takeFault k sub v s).free = s.free := rfl
@[simp] theorem takeFault_released (k : FaultKind) (sub : FaultSubject) (v : FaultValue) (s : State) : (takeFault k sub v s).released = s.released := by simp [State.released]
@[simp] theorem takeFault_image (k : FaultKind) (sub : FaultSubject) (v : FaultValue) (s : State) : (takeFault k sub v s).image = s.image := by simp [State.image]
@[simp] theorem takeFault_used (k : FaultKind) (sub : FaultSubject) (v : FaultValue) (s : State) (z : Zone) : (takeFault k sub v s).used z = s.used z := by simp [State.used]

/-! ### mapZoneC -/

@[simp] theorem mapZoneC_cl (f : Zone → ZoneControl → ZoneControl) (s : State) : (mapZoneC f s).cl = s.cl := rfl
@[simp] theorem mapZoneC_rs (f : Zone → ZoneControl → ZoneControl) (s : State) : (mapZoneC f s).rs = s.rs := rfl
@[simp] theorem mapZoneC_zm (f : Zone → ZoneControl → ZoneControl) (s : State) : (mapZoneC f s).zm = s.zm := rfl
@[simp] theorem mapZoneC_gc (f : Zone → ZoneControl → ZoneControl) (s : State) : (mapZoneC f s).gc = s.gc := rfl
@[simp] theorem mapZoneC_bd (f : Zone → ZoneControl → ZoneControl) (s : State) : (mapZoneC f s).bd = s.bd := rfl
@[simp] theorem mapZoneC_bu (f : Zone → ZoneControl → ZoneControl) (s : State) : (mapZoneC f s).bu = s.bu := rfl
@[simp] theorem mapZoneC_bl (f : Zone → ZoneControl → ZoneControl) (s : State) : (mapZoneC f s).bl = s.bl := rfl
@[simp] theorem mapZoneC_fl (f : Zone → ZoneControl → ZoneControl) (s : State) : (mapZoneC f s).fl = s.fl := rfl
@[simp] theorem mapZoneC_lp (f : Zone → ZoneControl → ZoneControl) (s : State) : (mapZoneC f s).lp = s.lp := rfl
@[simp] theorem mapZoneC_pins (f : Zone → ZoneControl → ZoneControl) (s : State) : (mapZoneC f s).pins = s.pins := rfl
@[simp] theorem mapZoneC_fuses (f : Zone → ZoneControl → ZoneControl) (s : State) : (mapZoneC f s).fuses = s.fuses := rfl
@[simp] theorem mapZoneC_resetHeld (f : Zone → ZoneControl → ZoneControl) (s : State) : (mapZoneC f s).resetHeld = s.resetHeld := rfl
@[simp] theorem mapZoneC_pending (f : Zone → ZoneControl → ZoneControl) (s : State) : (mapZoneC f s).pending = s.pending := rfl
@[simp] theorem mapZoneC_free (f : Zone → ZoneControl → ZoneControl) (s : State) : (mapZoneC f s).free = s.free := rfl
@[simp] theorem mapZoneC_released (f : Zone → ZoneControl → ZoneControl) (s : State) : (mapZoneC f s).released = s.released := by simp [State.released]
@[simp] theorem mapZoneC_image (f : Zone → ZoneControl → ZoneControl) (s : State) : (mapZoneC f s).image = s.image := by simp [State.image]
@[simp] theorem mapZoneC_used (f : Zone → ZoneControl → ZoneControl) (s : State) (z : Zone) : (mapZoneC f s).used z = s.used z := by simp [State.used]

/-! ### mapLines -/

@[simp] theorem mapLines_cl (f : GasLine → LineControl → LineControl) (s : State) : (mapLines f s).cl = s.cl := rfl
@[simp] theorem mapLines_rs (f : GasLine → LineControl → LineControl) (s : State) : (mapLines f s).rs = s.rs := rfl
@[simp] theorem mapLines_zm (f : GasLine → LineControl → LineControl) (s : State) : (mapLines f s).zm = s.zm := rfl
@[simp] theorem mapLines_zc (f : GasLine → LineControl → LineControl) (s : State) : (mapLines f s).zc = s.zc := rfl
@[simp] theorem mapLines_bd (f : GasLine → LineControl → LineControl) (s : State) : (mapLines f s).bd = s.bd := rfl
@[simp] theorem mapLines_bu (f : GasLine → LineControl → LineControl) (s : State) : (mapLines f s).bu = s.bu := rfl
@[simp] theorem mapLines_bl (f : GasLine → LineControl → LineControl) (s : State) : (mapLines f s).bl = s.bl := rfl
@[simp] theorem mapLines_fl (f : GasLine → LineControl → LineControl) (s : State) : (mapLines f s).fl = s.fl := rfl
@[simp] theorem mapLines_lp (f : GasLine → LineControl → LineControl) (s : State) : (mapLines f s).lp = s.lp := rfl
@[simp] theorem mapLines_pins (f : GasLine → LineControl → LineControl) (s : State) : (mapLines f s).pins = s.pins := rfl
@[simp] theorem mapLines_fuses (f : GasLine → LineControl → LineControl) (s : State) : (mapLines f s).fuses = s.fuses := rfl
@[simp] theorem mapLines_resetHeld (f : GasLine → LineControl → LineControl) (s : State) : (mapLines f s).resetHeld = s.resetHeld := rfl
@[simp] theorem mapLines_pending (f : GasLine → LineControl → LineControl) (s : State) : (mapLines f s).pending = s.pending := rfl
@[simp] theorem mapLines_free (f : GasLine → LineControl → LineControl) (s : State) : (mapLines f s).free = s.free := rfl
@[simp] theorem mapLines_released (f : GasLine → LineControl → LineControl) (s : State) : (mapLines f s).released = s.released := by simp [State.released]
@[simp] theorem mapLines_image (f : GasLine → LineControl → LineControl) (s : State) : (mapLines f s).image = s.image := by simp [State.image]
@[simp] theorem mapLines_used (f : GasLine → LineControl → LineControl) (s : State) (z : Zone) : (mapLines f s).used z = s.used z := by simp [State.used]

/-! ### takeIdleSource -/

@[simp] theorem takeIdleSource_cl (s : State) : (takeIdleSource s).cl = s.cl := rfl
@[simp] theorem takeIdleSource_rs (s : State) : (takeIdleSource s).rs = s.rs := rfl
@[simp] theorem takeIdleSource_zm (s : State) : (takeIdleSource s).zm = s.zm := rfl
@[simp] theorem takeIdleSource_gc (s : State) : (takeIdleSource s).gc = s.gc := rfl
@[simp] theorem takeIdleSource_bd (s : State) : (takeIdleSource s).bd = s.bd := rfl
@[simp] theorem takeIdleSource_bu (s : State) : (takeIdleSource s).bu = s.bu := rfl
@[simp] theorem takeIdleSource_bl (s : State) : (takeIdleSource s).bl = s.bl := rfl
@[simp] theorem takeIdleSource_fl (s : State) : (takeIdleSource s).fl = s.fl := rfl
@[simp] theorem takeIdleSource_lp (s : State) : (takeIdleSource s).lp = s.lp := rfl
@[simp] theorem takeIdleSource_pins (s : State) : (takeIdleSource s).pins = s.pins := rfl
@[simp] theorem takeIdleSource_fuses (s : State) : (takeIdleSource s).fuses = s.fuses := rfl
@[simp] theorem takeIdleSource_resetHeld (s : State) : (takeIdleSource s).resetHeld = s.resetHeld := rfl
@[simp] theorem takeIdleSource_pending (s : State) : (takeIdleSource s).pending = s.pending := rfl
@[simp] theorem takeIdleSource_free (s : State) : (takeIdleSource s).free = s.free := rfl
@[simp] theorem takeIdleSource_released (s : State) : (takeIdleSource s).released = s.released := by simp [State.released]
@[simp] theorem takeIdleSource_image (s : State) : (takeIdleSource s).image = s.image := by simp [State.image]
@[simp] theorem takeIdleSource_used (s : State) (z : Zone) : (takeIdleSource s).used z = s.used z := by simp [State.used]

/-! ### commandFlows -/

@[simp] theorem commandFlows_cl (w : PerLine Nat) (s : State) : (commandFlows w s).cl = s.cl := rfl
@[simp] theorem commandFlows_rs (w : PerLine Nat) (s : State) : (commandFlows w s).rs = s.rs := rfl
@[simp] theorem commandFlows_zm (w : PerLine Nat) (s : State) : (commandFlows w s).zm = s.zm := rfl
@[simp] theorem commandFlows_zc (w : PerLine Nat) (s : State) : (commandFlows w s).zc = s.zc := rfl
@[simp] theorem commandFlows_bd (w : PerLine Nat) (s : State) : (commandFlows w s).bd = s.bd := rfl
@[simp] theorem commandFlows_bl (w : PerLine Nat) (s : State) : (commandFlows w s).bl = s.bl := rfl
@[simp] theorem commandFlows_fl (w : PerLine Nat) (s : State) : (commandFlows w s).fl = s.fl := rfl
@[simp] theorem commandFlows_lp (w : PerLine Nat) (s : State) : (commandFlows w s).lp = s.lp := rfl
@[simp] theorem commandFlows_pins (w : PerLine Nat) (s : State) : (commandFlows w s).pins = s.pins := rfl
@[simp] theorem commandFlows_fuses (w : PerLine Nat) (s : State) : (commandFlows w s).fuses = s.fuses := rfl
@[simp] theorem commandFlows_resetHeld (w : PerLine Nat) (s : State) : (commandFlows w s).resetHeld = s.resetHeld := rfl
@[simp] theorem commandFlows_pending (w : PerLine Nat) (s : State) : (commandFlows w s).pending = s.pending := rfl
@[simp] theorem commandFlows_free (w : PerLine Nat) (s : State) : (commandFlows w s).free = s.free := rfl
@[simp] theorem commandFlows_released (w : PerLine Nat) (s : State) : (commandFlows w s).released = s.released := by simp [State.released]
@[simp] theorem commandFlows_image (w : PerLine Nat) (s : State) : (commandFlows w s).image = s.image := by simp [State.image]
@[simp] theorem commandFlows_used (w : PerLine Nat) (s : State) (z : Zone) : (commandFlows w s).used z = s.used z := by simp [State.used]

/-! ### releaseLatches -/

@[simp] theorem releaseLatches_cl (s : State) : (releaseLatches s).cl = s.cl := rfl
@[simp] theorem releaseLatches_rs (s : State) : (releaseLatches s).rs = s.rs := rfl
@[simp] theorem releaseLatches_zm (s : State) : (releaseLatches s).zm = s.zm := rfl
@[simp] theorem releaseLatches_zc (s : State) : (releaseLatches s).zc = s.zc := rfl
@[simp] theorem releaseLatches_bd (s : State) : (releaseLatches s).bd = s.bd := rfl
@[simp] theorem releaseLatches_bu (s : State) : (releaseLatches s).bu = s.bu := rfl
@[simp] theorem releaseLatches_bl (s : State) : (releaseLatches s).bl = s.bl := rfl
@[simp] theorem releaseLatches_fl (s : State) : (releaseLatches s).fl = s.fl := rfl
@[simp] theorem releaseLatches_lp (s : State) : (releaseLatches s).lp = s.lp := rfl
@[simp] theorem releaseLatches_pins (s : State) : (releaseLatches s).pins = s.pins := rfl
@[simp] theorem releaseLatches_fuses (s : State) : (releaseLatches s).fuses = s.fuses := rfl
@[simp] theorem releaseLatches_resetHeld (s : State) : (releaseLatches s).resetHeld = s.resetHeld := rfl
@[simp] theorem releaseLatches_pending (s : State) : (releaseLatches s).pending = s.pending := rfl
@[simp] theorem releaseLatches_free (s : State) : (releaseLatches s).free = s.free := rfl
@[simp] theorem releaseLatches_released (s : State) : (releaseLatches s).released = s.released := by simp [State.released]
@[simp] theorem releaseLatches_image (s : State) : (releaseLatches s).image = s.image := by simp [State.image]
@[simp] theorem releaseLatches_used (s : State) (z : Zone) : (releaseLatches s).used z = s.used z := by simp [State.used]

/-! ### takeIdleFlows -/

@[simp] theorem takeIdleFlows_cl (s : State) : (takeIdleFlows s).cl = s.cl := rfl
@[simp] theorem takeIdleFlows_rs (s : State) : (takeIdleFlows s).rs = s.rs := rfl
@[simp] theorem takeIdleFlows_zm (s : State) : (takeIdleFlows s).zm = s.zm := rfl
@[simp] theorem takeIdleFlows_zc (s : State) : (takeIdleFlows s).zc = s.zc := rfl
@[simp] theorem takeIdleFlows_bd (s : State) : (takeIdleFlows s).bd = s.bd := rfl
@[simp] theorem takeIdleFlows_bl (s : State) : (takeIdleFlows s).bl = s.bl := rfl
@[simp] theorem takeIdleFlows_fl (s : State) : (takeIdleFlows s).fl = s.fl := rfl
@[simp] theorem takeIdleFlows_lp (s : State) : (takeIdleFlows s).lp = s.lp := rfl
@[simp] theorem takeIdleFlows_pins (s : State) : (takeIdleFlows s).pins = s.pins := rfl
@[simp] theorem takeIdleFlows_fuses (s : State) : (takeIdleFlows s).fuses = s.fuses := rfl
@[simp] theorem takeIdleFlows_resetHeld (s : State) : (takeIdleFlows s).resetHeld = s.resetHeld := rfl
@[simp] theorem takeIdleFlows_pending (s : State) : (takeIdleFlows s).pending = s.pending := rfl
@[simp] theorem takeIdleFlows_free (s : State) : (takeIdleFlows s).free = s.free := rfl
@[simp] theorem takeIdleFlows_released (s : State) : (takeIdleFlows s).released = s.released := by simp [State.released]
@[simp] theorem takeIdleFlows_image (s : State) : (takeIdleFlows s).image = s.image := by simp [State.image]
@[simp] theorem takeIdleFlows_used (s : State) (z : Zone) : (takeIdleFlows s).used z = s.used z := by simp [State.used]

/-! ### takeAbortFlows -/

@[simp] theorem takeAbortFlows_cl (s : State) : (takeAbortFlows s).cl = s.cl := rfl
@[simp] theorem takeAbortFlows_rs (s : State) : (takeAbortFlows s).rs = s.rs := rfl
@[simp] theorem takeAbortFlows_zm (s : State) : (takeAbortFlows s).zm = s.zm := rfl
@[simp] theorem takeAbortFlows_zc (s : State) : (takeAbortFlows s).zc = s.zc := rfl
@[simp] theorem takeAbortFlows_bd (s : State) : (takeAbortFlows s).bd = s.bd := rfl
@[simp] theorem takeAbortFlows_bl (s : State) : (takeAbortFlows s).bl = s.bl := rfl
@[simp] theorem takeAbortFlows_fl (s : State) : (takeAbortFlows s).fl = s.fl := rfl
@[simp] theorem takeAbortFlows_lp (s : State) : (takeAbortFlows s).lp = s.lp := rfl
@[simp] theorem takeAbortFlows_pins (s : State) : (takeAbortFlows s).pins = s.pins := rfl
@[simp] theorem takeAbortFlows_fuses (s : State) : (takeAbortFlows s).fuses = s.fuses := rfl
@[simp] theorem takeAbortFlows_resetHeld (s : State) : (takeAbortFlows s).resetHeld = s.resetHeld := rfl
@[simp] theorem takeAbortFlows_pending (s : State) : (takeAbortFlows s).pending = s.pending := rfl
@[simp] theorem takeAbortFlows_free (s : State) : (takeAbortFlows s).free = s.free := rfl
@[simp] theorem takeAbortFlows_released (s : State) : (takeAbortFlows s).released = s.released := by simp [State.released]
@[simp] theorem takeAbortFlows_image (s : State) : (takeAbortFlows s).image = s.image := by simp [State.image]
@[simp] theorem takeAbortFlows_used (s : State) (z : Zone) : (takeAbortFlows s).used z = s.used z := by simp [State.used]

/-! ### stopBoat -/

@[simp] theorem stopBoat_cl (s : State) : (stopBoat s).cl = s.cl := rfl
@[simp] theorem stopBoat_rs (s : State) : (stopBoat s).rs = s.rs := rfl
@[simp] theorem stopBoat_zm (s : State) : (stopBoat s).zm = s.zm := rfl
@[simp] theorem stopBoat_zc (s : State) : (stopBoat s).zc = s.zc := rfl
@[simp] theorem stopBoat_gc (s : State) : (stopBoat s).gc = s.gc := rfl
@[simp] theorem stopBoat_bu (s : State) : (stopBoat s).bu = s.bu := rfl
@[simp] theorem stopBoat_bl (s : State) : (stopBoat s).bl = s.bl := rfl
@[simp] theorem stopBoat_fl (s : State) : (stopBoat s).fl = s.fl := rfl
@[simp] theorem stopBoat_lp (s : State) : (stopBoat s).lp = s.lp := rfl
@[simp] theorem stopBoat_pins (s : State) : (stopBoat s).pins = s.pins := rfl
@[simp] theorem stopBoat_fuses (s : State) : (stopBoat s).fuses = s.fuses := rfl
@[simp] theorem stopBoat_resetHeld (s : State) : (stopBoat s).resetHeld = s.resetHeld := rfl
@[simp] theorem stopBoat_pending (s : State) : (stopBoat s).pending = s.pending := rfl
@[simp] theorem stopBoat_free (s : State) : (stopBoat s).free = s.free := rfl
@[simp] theorem stopBoat_released (s : State) : (stopBoat s).released = s.released := by simp [State.released]
@[simp] theorem stopBoat_image (s : State) : (stopBoat s).image = s.image := by simp [State.image]
@[simp] theorem stopBoat_used (s : State) (z : Zone) : (stopBoat s).used z = s.used z := by simp [State.used]

/-! ### stopStepTimers -/

@[simp] theorem stopStepTimers_cl (s : State) : (stopStepTimers s).cl = s.cl := rfl
@[simp] theorem stopStepTimers_zm (s : State) : (stopStepTimers s).zm = s.zm := rfl
@[simp] theorem stopStepTimers_zc (s : State) : (stopStepTimers s).zc = s.zc := rfl
@[simp] theorem stopStepTimers_gc (s : State) : (stopStepTimers s).gc = s.gc := rfl
@[simp] theorem stopStepTimers_bd (s : State) : (stopStepTimers s).bd = s.bd := rfl
@[simp] theorem stopStepTimers_bu (s : State) : (stopStepTimers s).bu = s.bu := rfl
@[simp] theorem stopStepTimers_bl (s : State) : (stopStepTimers s).bl = s.bl := rfl
@[simp] theorem stopStepTimers_fl (s : State) : (stopStepTimers s).fl = s.fl := rfl
@[simp] theorem stopStepTimers_lp (s : State) : (stopStepTimers s).lp = s.lp := rfl
@[simp] theorem stopStepTimers_pins (s : State) : (stopStepTimers s).pins = s.pins := rfl
@[simp] theorem stopStepTimers_fuses (s : State) : (stopStepTimers s).fuses = s.fuses := rfl
@[simp] theorem stopStepTimers_resetHeld (s : State) : (stopStepTimers s).resetHeld = s.resetHeld := rfl
@[simp] theorem stopStepTimers_pending (s : State) : (stopStepTimers s).pending = s.pending := rfl
@[simp] theorem stopStepTimers_free (s : State) : (stopStepTimers s).free = s.free := rfl
@[simp] theorem stopStepTimers_released (s : State) : (stopStepTimers s).released = s.released := by simp [State.released]
@[simp] theorem stopStepTimers_image (s : State) : (stopStepTimers s).image = s.image := by simp [State.image]
@[simp] theorem stopStepTimers_used (s : State) (z : Zone) : (stopStepTimers s).used z = s.used z := by simp [State.used]

/-! ### enterHeld -/

@[simp] theorem enterHeld_cl (s : State) : (enterHeld s).cl = s.cl := by simp [enterHeld]
@[simp] theorem enterHeld_zm (s : State) : (enterHeld s).zm = s.zm := by simp [enterHeld]
@[simp] theorem enterHeld_fl (s : State) : (enterHeld s).fl = s.fl := by simp [enterHeld]
@[simp] theorem enterHeld_pins (s : State) : (enterHeld s).pins = s.pins := by simp [enterHeld]
@[simp] theorem enterHeld_fuses (s : State) : (enterHeld s).fuses = s.fuses := by simp [enterHeld]
@[simp] theorem enterHeld_resetHeld (s : State) : (enterHeld s).resetHeld = s.resetHeld := by simp [enterHeld]
@[simp] theorem enterHeld_pending (s : State) : (enterHeld s).pending = s.pending := by simp [enterHeld]
@[simp] theorem enterHeld_free (s : State) : (enterHeld s).free = s.free := by simp [enterHeld]
@[simp] theorem enterHeld_released (s : State) : (enterHeld s).released = s.released := by simp [State.released]
@[simp] theorem enterHeld_image (s : State) : (enterHeld s).image = s.image := by simp [State.image]
@[simp] theorem enterHeld_used (s : State) (z : Zone) : (enterHeld s).used z = s.used z := by simp [State.used]

/-! ### enterIdle -/

@[simp] theorem enterIdle_cl (s : State) : (enterIdle s).cl = s.cl := by simp [enterIdle]
@[simp] theorem enterIdle_zm (s : State) : (enterIdle s).zm = s.zm := by simp [enterIdle]
@[simp] theorem enterIdle_fl (s : State) : (enterIdle s).fl = s.fl := by simp [enterIdle]
@[simp] theorem enterIdle_pins (s : State) : (enterIdle s).pins = s.pins := by simp [enterIdle]
@[simp] theorem enterIdle_fuses (s : State) : (enterIdle s).fuses = s.fuses := by simp [enterIdle]
@[simp] theorem enterIdle_resetHeld (s : State) : (enterIdle s).resetHeld = s.resetHeld := by simp [enterIdle]
@[simp] theorem enterIdle_pending (s : State) : (enterIdle s).pending = s.pending := by simp [enterIdle]
@[simp] theorem enterIdle_free (s : State) : (enterIdle s).free = s.free := by simp [enterIdle]
@[simp] theorem enterIdle_released (s : State) : (enterIdle s).released = s.released := by simp [State.released]
@[simp] theorem enterIdle_image (s : State) : (enterIdle s).image = s.image := by simp [State.image]
@[simp] theorem enterIdle_used (s : State) (z : Zone) : (enterIdle s).used z = s.used z := by simp [State.used]

/-! ### beginAbort -/

@[simp] theorem beginAbort_cl (s : State) : (beginAbort s).cl = s.cl := by simp [beginAbort]
@[simp] theorem beginAbort_zm (s : State) : (beginAbort s).zm = s.zm := by simp [beginAbort]
@[simp] theorem beginAbort_fl (s : State) : (beginAbort s).fl = s.fl := by simp [beginAbort]
@[simp] theorem beginAbort_pins (s : State) : (beginAbort s).pins = s.pins := by simp [beginAbort]
@[simp] theorem beginAbort_fuses (s : State) : (beginAbort s).fuses = s.fuses := by simp [beginAbort]
@[simp] theorem beginAbort_resetHeld (s : State) : (beginAbort s).resetHeld = s.resetHeld := by simp [beginAbort]
@[simp] theorem beginAbort_pending (s : State) : (beginAbort s).pending = s.pending := by simp [beginAbort]
@[simp] theorem beginAbort_free (s : State) : (beginAbort s).free = s.free := by simp [beginAbort]
@[simp] theorem beginAbort_released (s : State) : (beginAbort s).released = s.released := by simp [State.released]
@[simp] theorem beginAbort_image (s : State) : (beginAbort s).image = s.image := by simp [State.image]
@[simp] theorem beginAbort_used (s : State) (z : Zone) : (beginAbort s).used z = s.used z := by simp [State.used]

/-! ### testAbortPurge -/

@[simp] theorem testAbortPurge_cl (s : State) : (testAbortPurge s).cl = s.cl := by unfold testAbortPurge; split <;> [split; skip] <;> simp
@[simp] theorem testAbortPurge_zm (s : State) : (testAbortPurge s).zm = s.zm := by unfold testAbortPurge; split <;> [split; skip] <;> simp
@[simp] theorem testAbortPurge_fl (s : State) : (testAbortPurge s).fl = s.fl := by unfold testAbortPurge; split <;> [split; skip] <;> simp
@[simp] theorem testAbortPurge_pins (s : State) : (testAbortPurge s).pins = s.pins := by unfold testAbortPurge; split <;> [split; skip] <;> simp
@[simp] theorem testAbortPurge_fuses (s : State) : (testAbortPurge s).fuses = s.fuses := by unfold testAbortPurge; split <;> [split; skip] <;> simp
@[simp] theorem testAbortPurge_resetHeld (s : State) : (testAbortPurge s).resetHeld = s.resetHeld := by unfold testAbortPurge; split <;> [split; skip] <;> simp
@[simp] theorem testAbortPurge_pending (s : State) : (testAbortPurge s).pending = s.pending := by unfold testAbortPurge; split <;> [split; skip] <;> simp
@[simp] theorem testAbortPurge_free (s : State) : (testAbortPurge s).free = s.free := by unfold testAbortPurge; split <;> [split; skip] <;> simp
@[simp] theorem testAbortPurge_released (s : State) : (testAbortPurge s).released = s.released := by simp [State.released]
@[simp] theorem testAbortPurge_image (s : State) : (testAbortPurge s).image = s.image := by simp [State.image]
@[simp] theorem testAbortPurge_used (s : State) (z : Zone) : (testAbortPurge s).used z = s.used z := by simp [State.used]

/-! ### enterAborting -/

@[simp] theorem enterAborting_cl (s : State) : (enterAborting s).cl = s.cl := by simp [enterAborting]
@[simp] theorem enterAborting_zm (s : State) : (enterAborting s).zm = s.zm := by simp [enterAborting]
@[simp] theorem enterAborting_fl (s : State) : (enterAborting s).fl = s.fl := by simp [enterAborting]
@[simp] theorem enterAborting_pins (s : State) : (enterAborting s).pins = s.pins := by simp [enterAborting]
@[simp] theorem enterAborting_fuses (s : State) : (enterAborting s).fuses = s.fuses := by simp [enterAborting]
@[simp] theorem enterAborting_resetHeld (s : State) : (enterAborting s).resetHeld = s.resetHeld := by simp [enterAborting]
@[simp] theorem enterAborting_pending (s : State) : (enterAborting s).pending = s.pending := by simp [enterAborting]
@[simp] theorem enterAborting_free (s : State) : (enterAborting s).free = s.free := by simp [enterAborting]
@[simp] theorem enterAborting_released (s : State) : (enterAborting s).released = s.released := by simp [State.released]
@[simp] theorem enterAborting_image (s : State) : (enterAborting s).image = s.image := by simp [State.image]
@[simp] theorem enterAborting_used (s : State) (z : Zone) : (enterAborting s).used z = s.used z := by simp [State.used]

/-! ### takeAbortOrder -/

@[simp] theorem takeAbortOrder_cl (s : State) : (takeAbortOrder s).cl = s.cl := by unfold takeAbortOrder; split <;> simp
@[simp] theorem takeAbortOrder_zm (s : State) : (takeAbortOrder s).zm = s.zm := by unfold takeAbortOrder; split <;> simp
@[simp] theorem takeAbortOrder_pins (s : State) : (takeAbortOrder s).pins = s.pins := by unfold takeAbortOrder; split <;> simp
@[simp] theorem takeAbortOrder_fuses (s : State) : (takeAbortOrder s).fuses = s.fuses := by unfold takeAbortOrder; split <;> simp
@[simp] theorem takeAbortOrder_resetHeld (s : State) : (takeAbortOrder s).resetHeld = s.resetHeld := by unfold takeAbortOrder; split <;> simp
@[simp] theorem takeAbortOrder_pending (s : State) : (takeAbortOrder s).pending = s.pending := by unfold takeAbortOrder; split <;> simp
@[simp] theorem takeAbortOrder_fl (s : State) : (takeAbortOrder s).fl = s.fl := by unfold takeAbortOrder; split <;> simp
@[simp] theorem takeAbortOrder_released (s : State) : (takeAbortOrder s).released = s.released := by simp [State.released]
@[simp] theorem takeAbortOrder_image (s : State) : (takeAbortOrder s).image = s.image := by simp [State.image]
@[simp] theorem takeAbortOrder_used (s : State) (z : Zone) : (takeAbortOrder s).used z = s.used z := by simp [State.used]

/-! ### takeWaitingOrder -/

/-- Where no order waits, nothing is taken. -/
theorem takeWaitingOrder_of_none {s : State} (h : s.rs.abortOrdered = false) : takeWaitingOrder s = s := by
  simp [takeWaitingOrder, h]

/-- All that the taking of a waiting order can do: nothing, the order dropped in IDLE or ABORTING, or the abort. -/
theorem takeWaitingOrder_cases (s : State) :
    s.rs.abortOrdered = false ∧ takeWaitingOrder s = s ∨
    s.rs.abortOrdered = true ∧
      (s.rs.run.abortable = false ∧ takeWaitingOrder s = { s with rs.abortOrdered := false } ∨
        s.rs.run.abortable = true ∧ takeWaitingOrder s = enterAborting { s with rs.abortOrdered := false }) := by
  cases h : s.rs.abortOrdered <;> cases h1 : s.rs.run.abortable <;> simp [takeWaitingOrder, takeAbortOrder, h, h1]

@[simp] theorem takeWaitingOrder_cl (s : State) : (takeWaitingOrder s).cl = s.cl := by unfold takeWaitingOrder; split <;> simp
@[simp] theorem takeWaitingOrder_zm (s : State) : (takeWaitingOrder s).zm = s.zm := by unfold takeWaitingOrder; split <;> simp
@[simp] theorem takeWaitingOrder_pins (s : State) : (takeWaitingOrder s).pins = s.pins := by unfold takeWaitingOrder; split <;> simp
@[simp] theorem takeWaitingOrder_fuses (s : State) : (takeWaitingOrder s).fuses = s.fuses := by unfold takeWaitingOrder; split <;> simp
@[simp] theorem takeWaitingOrder_resetHeld (s : State) : (takeWaitingOrder s).resetHeld = s.resetHeld := by unfold takeWaitingOrder; split <;> simp
@[simp] theorem takeWaitingOrder_pending (s : State) : (takeWaitingOrder s).pending = s.pending := by unfold takeWaitingOrder; split <;> simp
@[simp] theorem takeWaitingOrder_fl (s : State) : (takeWaitingOrder s).fl = s.fl := by unfold takeWaitingOrder; split <;> simp
@[simp] theorem takeWaitingOrder_released (s : State) : (takeWaitingOrder s).released = s.released := by simp [State.released]
@[simp] theorem takeWaitingOrder_image (s : State) : (takeWaitingOrder s).image = s.image := by simp [State.image]
@[simp] theorem takeWaitingOrder_used (s : State) (z : Zone) : (takeWaitingOrder s).used z = s.used z := by simp [State.used]

/-! ### giveAbortOrder -/

/-- With nothing to meet, RS takes the order at once. -/
@[simp] theorem giveAbortOrder_false (s : State) : giveAbortOrder false s = takeAbortOrder s := by simp [giveAbortOrder]

/-- All that the giving of an abort order can do: it is taken at once, or it waits. -/
theorem giveAbortOrder_cases (b : Bool) (s : State) :
    giveAbortOrder b s = takeAbortOrder s ∨
    b = true ∧ s.rs.run.abortable = true ∧ (giveAbortOrder b s = enterAborting { s with free := s.free + 1 } ∨
      giveAbortOrder b s = { s with free := s.free + 1, rs.abortOrdered := true }) := by
  cases b
  · simp
  · cases h : s.rs.run.abortable
    · simp [giveAbortOrder, h]
    · simp only [giveAbortOrder, takeAbortOrder, h, Bool.and_self, if_true]
      split <;> simp

@[simp] theorem giveAbortOrder_cl (b : Bool) (s : State) : (giveAbortOrder b s).cl = s.cl := by
  unfold giveAbortOrder; split <;> [(dsimp only; split); skip] <;> simp
@[simp] theorem giveAbortOrder_zm (b : Bool) (s : State) : (giveAbortOrder b s).zm = s.zm := by
  unfold giveAbortOrder; split <;> [(dsimp only; split); skip] <;> simp
@[simp] theorem giveAbortOrder_pins (b : Bool) (s : State) : (giveAbortOrder b s).pins = s.pins := by
  unfold giveAbortOrder; split <;> [(dsimp only; split); skip] <;> simp
@[simp] theorem giveAbortOrder_fuses (b : Bool) (s : State) : (giveAbortOrder b s).fuses = s.fuses := by
  unfold giveAbortOrder; split <;> [(dsimp only; split); skip] <;> simp
@[simp] theorem giveAbortOrder_resetHeld (b : Bool) (s : State) : (giveAbortOrder b s).resetHeld = s.resetHeld := by
  unfold giveAbortOrder; split <;> [(dsimp only; split); skip] <;> simp
@[simp] theorem giveAbortOrder_pending (b : Bool) (s : State) : (giveAbortOrder b s).pending = s.pending := by
  unfold giveAbortOrder; split <;> [(dsimp only; split); skip] <;> simp
@[simp] theorem giveAbortOrder_fl (b : Bool) (s : State) : (giveAbortOrder b s).fl = s.fl := by
  unfold giveAbortOrder; split <;> [(dsimp only; split); skip] <;> simp
@[simp] theorem giveAbortOrder_released (b : Bool) (s : State) : (giveAbortOrder b s).released = s.released := by simp [State.released]
@[simp] theorem giveAbortOrder_image (b : Bool) (s : State) : (giveAbortOrder b s).image = s.image := by simp [State.image]
@[simp] theorem giveAbortOrder_used (b : Bool) (s : State) (z : Zone) : (giveAbortOrder b s).used z = s.used z := by simp [State.used]

/-! ### reportFaultMeeting -/

@[simp] theorem reportFaultMeeting_cl (b : Bool) (k : FaultKind) (sub : FaultSubject) (v : FaultValue) (s : State) :
    (reportFaultMeeting b k sub v s).cl = s.cl := by unfold reportFaultMeeting; dsimp only; split <;> simp
@[simp] theorem reportFaultMeeting_zm (b : Bool) (k : FaultKind) (sub : FaultSubject) (v : FaultValue) (s : State) :
    (reportFaultMeeting b k sub v s).zm = s.zm := by unfold reportFaultMeeting; dsimp only; split <;> simp
@[simp] theorem reportFaultMeeting_pins (b : Bool) (k : FaultKind) (sub : FaultSubject) (v : FaultValue) (s : State) :
    (reportFaultMeeting b k sub v s).pins = s.pins := by unfold reportFaultMeeting; dsimp only; split <;> simp
@[simp] theorem reportFaultMeeting_fuses (b : Bool) (k : FaultKind) (sub : FaultSubject) (v : FaultValue) (s : State) :
    (reportFaultMeeting b k sub v s).fuses = s.fuses := by unfold reportFaultMeeting; dsimp only; split <;> simp
@[simp] theorem reportFaultMeeting_resetHeld (b : Bool) (k : FaultKind) (sub : FaultSubject) (v : FaultValue) (s : State) :
    (reportFaultMeeting b k sub v s).resetHeld = s.resetHeld := by unfold reportFaultMeeting; dsimp only; split <;> simp
@[simp] theorem reportFaultMeeting_pending (b : Bool) (k : FaultKind) (sub : FaultSubject) (v : FaultValue) (s : State) :
    (reportFaultMeeting b k sub v s).pending = s.pending := by unfold reportFaultMeeting; dsimp only; split <;> simp

/-! ### reportFault -/

@[simp] theorem reportFault_cl (k : FaultKind) (sub : FaultSubject) (v : FaultValue) (s : State) : (reportFault k sub v s).cl = s.cl := by simp [reportFault]
@[simp] theorem reportFault_zm (k : FaultKind) (sub : FaultSubject) (v : FaultValue) (s : State) : (reportFault k sub v s).zm = s.zm := by simp [reportFault]
@[simp] theorem reportFault_pins (k : FaultKind) (sub : FaultSubject) (v : FaultValue) (s : State) : (reportFault k sub v s).pins = s.pins := by simp [reportFault]
@[simp] theorem reportFault_fuses (k : FaultKind) (sub : FaultSubject) (v : FaultValue) (s : State) : (reportFault k sub v s).fuses = s.fuses := by simp [reportFault]
@[simp] theorem reportFault_resetHeld (k : FaultKind) (sub : FaultSubject) (v : FaultValue) (s : State) : (reportFault k sub v s).resetHeld = s.resetHeld := by simp [reportFault]
@[simp] theorem reportFault_pending (k : FaultKind) (sub : FaultSubject) (v : FaultValue) (s : State) : (reportFault k sub v s).pending = s.pending := by simp [reportFault]
@[simp] theorem reportFault_released (k : FaultKind) (sub : FaultSubject) (v : FaultValue) (s : State) : (reportFault k sub v s).released = s.released := by simp [State.released]
@[simp] theorem reportFault_image (k : FaultKind) (sub : FaultSubject) (v : FaultValue) (s : State) : (reportFault k sub v s).image = s.image := by simp [State.image]
@[simp] theorem reportFault_used (k : FaultKind) (sub : FaultSubject) (v : FaultValue) (s : State) (z : Zone) : (reportFault k sub v s).used z = s.used z := by simp [State.used]

end Sys2Proof.Machine
end

