-- ==== Sys2Proof/Laws/Frames.lean ====
section
/-!
SUPPORT. Inside the blocks that the reactions touch: what a raised event and the reactions to a change leave as it was. A
reaction sets the pending events, the pulse interval timer, the held grants, the cap-seen flag, the ANNOUNCE slot and the
outbound queue, and nothing else.
-/
namespace Sys2Proof.Machine

/-! ### raiseEvent -/

@[simp] theorem raiseEvent_lp_rx (k : EventKind) (s : State) : (raiseEvent k s).lp.rx = s.lp.rx := rfl
@[simp] theorem raiseEvent_lp_gap (k : EventKind) (s : State) : (raiseEvent k s).lp.gap = s.lp.gap := rfl
@[simp] theorem raiseEvent_lp_slot (k : EventKind) (s : State) : (raiseEvent k s).lp.slot = s.lp.slot := rfl
@[simp] theorem raiseEvent_lp_reply (k : EventKind) (s : State) : (raiseEvent k s).lp.reply = s.lp.reply := rfl
@[simp] theorem raiseEvent_lp_replyTimer (k : EventKind) (s : State) : (raiseEvent k s).lp.replyTimer = s.lp.replyTimer := rfl
@[simp] theorem raiseEvent_lp_lineErrors (k : EventKind) (s : State) : (raiseEvent k s).lp.lineErrors = s.lp.lineErrors := rfl
@[simp] theorem raiseEvent_lp_overruns (k : EventKind) (s : State) : (raiseEvent k s).lp.overruns = s.lp.overruns := rfl

/-! ### boatReact -/

@[simp] theorem boatReact_lp_rx (s0 s : State) : (boatReact s0 s).lp.rx = s.lp.rx := by
  unfold boatReact; dsimp only; split <;> split <;> rfl
@[simp] theorem boatReact_lp_gap (s0 s : State) : (boatReact s0 s).lp.gap = s.lp.gap := by
  unfold boatReact; dsimp only; split <;> split <;> rfl
@[simp] theorem boatReact_lp_slot (s0 s : State) : (boatReact s0 s).lp.slot = s.lp.slot := by
  unfold boatReact; dsimp only; split <;> split <;> rfl
@[simp] theorem boatReact_lp_reply (s0 s : State) : (boatReact s0 s).lp.reply = s.lp.reply := by
  unfold boatReact; dsimp only; split <;> split <;> rfl
@[simp] theorem boatReact_lp_replyTimer (s0 s : State) : (boatReact s0 s).lp.replyTimer = s.lp.replyTimer := by
  unfold boatReact; dsimp only; split <;> split <;> rfl
@[simp] theorem boatReact_lp_lineErrors (s0 s : State) : (boatReact s0 s).lp.lineErrors = s.lp.lineErrors := by
  unfold boatReact; dsimp only; split <;> split <;> rfl
@[simp] theorem boatReact_lp_overruns (s0 s : State) : (boatReact s0 s).lp.overruns = s.lp.overruns := by
  unfold boatReact; dsimp only; split <;> split <;> rfl
@[simp] theorem boatReact_bd_e (s0 s : State) : (boatReact s0 s).bd.e = s.bd.e := by
  unfold boatReact; dsimp only; split <;> split <;> rfl
@[simp] theorem boatReact_bd_c (s0 s : State) : (boatReact s0 s).bd.c = s.bd.c := by
  unfold boatReact; dsimp only; split <;> split <;> rfl
@[simp] theorem boatReact_bd_dir (s0 s : State) : (boatReact s0 s).bd.dir = s.bd.dir := by
  unfold boatReact; dsimp only; split <;> split <;> rfl
@[simp] theorem boatReact_bd_move (s0 s : State) : (boatReact s0 s).bd.move = s.bd.move := by
  unfold boatReact; dsimp only; split <;> split <;> rfl
@[simp] theorem boatReact_bd_factor (s0 s : State) : (boatReact s0 s).bd.factor = s.bd.factor := by
  unfold boatReact; dsimp only; split <;> split <;> rfl
@[simp] theorem boatReact_bd_droopWait (s0 s : State) : (boatReact s0 s).bd.droopWait = s.bd.droopWait := by
  unfold boatReact; dsimp only; split <;> split <;> rfl
@[simp] theorem boatReact_bd_bdir (s0 s : State) : (boatReact s0 s).bd.bdir = s.bd.bdir := by
  unfold boatReact; dsimp only; split <;> split <;> rfl
@[simp] theorem boatReact_bd_gate (s0 s : State) : (boatReact s0 s).bd.gate = s.bd.gate := by
  unfold boatReact; dsimp only; split <;> split <;> rfl
@[simp] theorem boatReact_bd_reclear (s0 s : State) : (boatReact s0 s).bd.reclear = s.bd.reclear := by
  unfold boatReact; dsimp only; split <;> split <;> rfl
@[simp] theorem boatReact_bd_pulses (s0 s : State) : (boatReact s0 s).bd.pulses = s.bd.pulses := by
  unfold boatReact; dsimp only; split <;> split <;> rfl
@[simp] theorem boatReact_bd_marks (s0 s : State) : (boatReact s0 s).bd.marks = s.bd.marks := by
  unfold boatReact; dsimp only; split <;> split <;> rfl
@[simp] theorem boatReact_bd_lastMark (s0 s : State) : (boatReact s0 s).bd.lastMark = s.bd.lastMark := by
  unfold boatReact; dsimp only; split <;> split <;> rfl
@[simp] theorem boatReact_bd_referenced (s0 s : State) : (boatReact s0 s).bd.referenced = s.bd.referenced := by
  unfold boatReact; dsimp only; split <;> split <;> rfl
@[simp] theorem boatReact_bd_droop (s0 s : State) : (boatReact s0 s).bd.droop = s.bd.droop := by
  unfold boatReact; dsimp only; split <;> split <;> rfl
@[simp] theorem boatReact_bd_phase (s0 s : State) : (boatReact s0 s).bd.phase = s.bd.phase := by
  unfold boatReact; dsimp only; split <;> split <;> rfl

/-! ### lowerGrants -/

@[simp] theorem lowerGrants_bu_view (s : State) : (lowerGrants s).bu.view = s.bu.view := rfl
@[simp] theorem lowerGrants_bu_heater (s : State) : (lowerGrants s).bu.heater = s.bu.heater := rfl
@[simp] theorem lowerGrants_bu_purge (s : State) : (lowerGrants s).bu.purge = s.bu.purge := rfl
@[simp] theorem lowerGrants_bu_level (s : State) : (lowerGrants s).bu.level = s.bu.level := rfl
@[simp] theorem lowerGrants_bu_contentErrors (s : State) : (lowerGrants s).bu.contentErrors = s.bu.contentErrors := rfl
@[simp] theorem lowerGrants_bu_collection (s : State) : (lowerGrants s).bu.collection = s.bu.collection := rfl
@[simp] theorem lowerGrants_bu_debounced (s : State) : (lowerGrants s).bu.debounced = s.bu.debounced := rfl
@[simp] theorem lowerGrants_bu_debounce (s : State) : (lowerGrants s).bu.debounce = s.bu.debounce := rfl
@[simp] theorem lowerGrants_bu_frameHeard (s : State) : (lowerGrants s).bu.frameHeard = s.bu.frameHeard := rfl
@[simp] theorem lowerGrants_zc_zones (s : State) : (lowerGrants s).zc.zones = s.zc.zones := rfl
@[simp] theorem lowerGrants_zc_rate (s : State) : (lowerGrants s).zc.rate = s.zc.rate := rfl
@[simp] theorem lowerGrants_zc_band (s : State) : (lowerGrants s).zc.band = s.zc.band := rfl
@[simp] theorem lowerGrants_zc_settle (s : State) : (lowerGrants s).zc.settle = s.zc.settle := rfl
@[simp] theorem lowerGrants_zc_rampWait (s : State) : (lowerGrants s).zc.rampWait = s.zc.rampWait := rfl
@[simp] theorem lowerGrants_zc_frozen (s : State) : (lowerGrants s).zc.frozen = s.zc.frozen := rfl
@[simp] theorem lowerGrants_zc_demand (s : State) : (lowerGrants s).zc.demand = s.zc.demand := rfl
@[simp] theorem lowerGrants_zc_want (s : State) : (lowerGrants s).zc.want = s.zc.want := rfl
@[simp] theorem lowerGrants_zc_floor (s : State) : (lowerGrants s).zc.floor = s.zc.floor := rfl
@[simp] theorem lowerGrants_zc_phase (s : State) : (lowerGrants s).zc.phase = s.zc.phase := rfl

/-! ### raiseCheck -/

@[simp] theorem raiseCheck_bl_phase (s : State) : (raiseCheck s).bl.phase = s.bl.phase := by unfold raiseCheck; split <;> rfl
@[simp] theorem raiseCheck_bl_isolated (s : State) : (raiseCheck s).bl.isolated = s.bl.isolated := by unfold raiseCheck; split <;> rfl
@[simp] theorem raiseCheck_bl_mute (s : State) : (raiseCheck s).bl.mute = s.bl.mute := by unfold raiseCheck; split <;> rfl
@[simp] theorem raiseCheck_bl_curtailSlot (s : State) : (raiseCheck s).bl.curtailSlot = s.bl.curtailSlot := by unfold raiseCheck; split <;> rfl
@[simp] theorem raiseCheck_bl_ackSlot (s : State) : (raiseCheck s).bl.ackSlot = s.bl.ackSlot := by unfold raiseCheck; split <;> rfl
@[simp] theorem raiseCheck_bl_attempt (s : State) : (raiseCheck s).bl.attempt = s.bl.attempt := by unfold raiseCheck; split <;> rfl
@[simp] theorem raiseCheck_bl_abandons (s : State) : (raiseCheck s).bl.abandons = s.bl.abandons := by unfold raiseCheck; split <;> rfl
@[simp] theorem raiseCheck_bl_rxErrors (s : State) : (raiseCheck s).bl.rxErrors = s.bl.rxErrors := by unfold raiseCheck; split <;> rfl
@[simp] theorem raiseCheck_bl_listen (s : State) : (raiseCheck s).bl.listen = s.bl.listen := by unfold raiseCheck; split <;> rfl
@[simp] theorem raiseCheck_bl_silence (s : State) : (raiseCheck s).bl.silence = s.bl.silence := by unfold raiseCheck; split <;> rfl
@[simp] theorem raiseCheck_bl_muteTimer (s : State) : (raiseCheck s).bl.muteTimer = s.bl.muteTimer := by unfold raiseCheck; split <;> rfl
@[simp] theorem raiseCheck_bl_announce (s : State) : (raiseCheck s).bl.announce = s.bl.announce := by unfold raiseCheck; split <;> rfl
@[simp] theorem raiseCheck_bl_line (s : State) : (raiseCheck s).bl.line = s.bl.line := by unfold raiseCheck; split <;> rfl

/-! ### shareReact -/

@[simp] theorem shareReact_bu_view (s0 s : State) : (shareReact s0 s).bu.view = s.bu.view := by unfold shareReact; split <;> simp
@[simp] theorem shareReact_bu_heater (s0 s : State) : (shareReact s0 s).bu.heater = s.bu.heater := by unfold shareReact; split <;> simp
@[simp] theorem shareReact_bu_purge (s0 s : State) : (shareReact s0 s).bu.purge = s.bu.purge := by unfold shareReact; split <;> simp
@[simp] theorem shareReact_bu_level (s0 s : State) : (shareReact s0 s).bu.level = s.bu.level := by unfold shareReact; split <;> simp
@[simp] theorem shareReact_bu_contentErrors (s0 s : State) : (shareReact s0 s).bu.contentErrors = s.bu.contentErrors := by unfold shareReact; split <;> simp
@[simp] theorem shareReact_bu_collection (s0 s : State) : (shareReact s0 s).bu.collection = s.bu.collection := by unfold shareReact; split <;> simp
@[simp] theorem shareReact_bu_debounced (s0 s : State) : (shareReact s0 s).bu.debounced = s.bu.debounced := by unfold shareReact; split <;> simp
@[simp] theorem shareReact_bu_debounce (s0 s : State) : (shareReact s0 s).bu.debounce = s.bu.debounce := by unfold shareReact; split <;> simp
@[simp] theorem shareReact_bu_frameHeard (s0 s : State) : (shareReact s0 s).bu.frameHeard = s.bu.frameHeard := by unfold shareReact; split <;> simp
@[simp] theorem shareReact_zc_zones (s0 s : State) : (shareReact s0 s).zc.zones = s.zc.zones := by unfold shareReact; split <;> simp
@[simp] theorem shareReact_zc_rate (s0 s : State) : (shareReact s0 s).zc.rate = s.zc.rate := by unfold shareReact; split <;> simp
@[simp] theorem shareReact_zc_band (s0 s : State) : (shareReact s0 s).zc.band = s.zc.band := by unfold shareReact; split <;> simp
@[simp] theorem shareReact_zc_settle (s0 s : State) : (shareReact s0 s).zc.settle = s.zc.settle := by unfold shareReact; split <;> simp
@[simp] theorem shareReact_zc_rampWait (s0 s : State) : (shareReact s0 s).zc.rampWait = s.zc.rampWait := by unfold shareReact; split <;> simp
@[simp] theorem shareReact_zc_frozen (s0 s : State) : (shareReact s0 s).zc.frozen = s.zc.frozen := by unfold shareReact; split <;> simp
@[simp] theorem shareReact_zc_demand (s0 s : State) : (shareReact s0 s).zc.demand = s.zc.demand := by unfold shareReact; split <;> simp
@[simp] theorem shareReact_zc_want (s0 s : State) : (shareReact s0 s).zc.want = s.zc.want := by unfold shareReact; split <;> simp
@[simp] theorem shareReact_zc_floor (s0 s : State) : (shareReact s0 s).zc.floor = s.zc.floor := by unfold shareReact; split <;> simp
@[simp] theorem shareReact_zc_phase (s0 s : State) : (shareReact s0 s).zc.phase = s.zc.phase := by unfold shareReact; split <;> simp
@[simp] theorem shareReact_bl_phase (s0 s : State) : (shareReact s0 s).bl.phase = s.bl.phase := by unfold shareReact; split <;> simp
@[simp] theorem shareReact_bl_isolated (s0 s : State) : (shareReact s0 s).bl.isolated = s.bl.isolated := by unfold shareReact; split <;> simp
@[simp] theorem shareReact_bl_mute (s0 s : State) : (shareReact s0 s).bl.mute = s.bl.mute := by unfold shareReact; split <;> simp
@[simp] theorem shareReact_bl_curtailSlot (s0 s : State) : (shareReact s0 s).bl.curtailSlot = s.bl.curtailSlot := by unfold shareReact; split <;> simp
@[simp] theorem shareReact_bl_ackSlot (s0 s : State) : (shareReact s0 s).bl.ackSlot = s.bl.ackSlot := by unfold shareReact; split <;> simp
@[simp] theorem shareReact_bl_attempt (s0 s : State) : (shareReact s0 s).bl.attempt = s.bl.attempt := by unfold shareReact; split <;> simp
@[simp] theorem shareReact_bl_abandons (s0 s : State) : (shareReact s0 s).bl.abandons = s.bl.abandons := by unfold shareReact; split <;> simp
@[simp] theorem shareReact_bl_rxErrors (s0 s : State) : (shareReact s0 s).bl.rxErrors = s.bl.rxErrors := by unfold shareReact; split <;> simp
@[simp] theorem shareReact_bl_listen (s0 s : State) : (shareReact s0 s).bl.listen = s.bl.listen := by unfold shareReact; split <;> simp
@[simp] theorem shareReact_bl_silence (s0 s : State) : (shareReact s0 s).bl.silence = s.bl.silence := by unfold shareReact; split <;> simp
@[simp] theorem shareReact_bl_muteTimer (s0 s : State) : (shareReact s0 s).bl.muteTimer = s.bl.muteTimer := by unfold shareReact; split <;> simp
@[simp] theorem shareReact_bl_announce (s0 s : State) : (shareReact s0 s).bl.announce = s.bl.announce := by unfold shareReact; split <;> simp
@[simp] theorem shareReact_bl_line (s0 s : State) : (shareReact s0 s).bl.line = s.bl.line := by unfold shareReact; split <;> simp

/-! ### flowReact -/

@[simp] theorem flowReact_gc_lines (s0 s : State) : (flowReact s0 s).gc.lines = s.gc.lines := rfl
@[simp] theorem flowReact_gc_acc (s0 s : State) : (flowReact s0 s).gc.acc = s.gc.acc := rfl
@[simp] theorem flowReact_gc_requirement (s0 s : State) : (flowReact s0 s).gc.requirement = s.gc.requirement := rfl
@[simp] theorem flowReact_gc_abortPurge (s0 s : State) : (flowReact s0 s).gc.abortPurge = s.gc.abortPurge := rfl
@[simp] theorem flowReact_gc_sent (s0 s : State) : (flowReact s0 s).gc.sent = s.gc.sent := rfl
@[simp] theorem flowReact_gc_phase (s0 s : State) : (flowReact s0 s).gc.phase = s.gc.phase := rfl

/-! ### commit -/

@[simp] theorem commit_lp_rx (s0 s : State) : (commit s0 s).lp.rx = s.lp.rx := by simp [commit]
@[simp] theorem commit_lp_gap (s0 s : State) : (commit s0 s).lp.gap = s.lp.gap := by simp [commit]
@[simp] theorem commit_lp_slot (s0 s : State) : (commit s0 s).lp.slot = s.lp.slot := by simp [commit]
@[simp] theorem commit_lp_reply (s0 s : State) : (commit s0 s).lp.reply = s.lp.reply := by simp [commit]
@[simp] theorem commit_lp_replyTimer (s0 s : State) : (commit s0 s).lp.replyTimer = s.lp.replyTimer := by simp [commit]
@[simp] theorem commit_lp_lineErrors (s0 s : State) : (commit s0 s).lp.lineErrors = s.lp.lineErrors := by simp [commit]
@[simp] theorem commit_lp_overruns (s0 s : State) : (commit s0 s).lp.overruns = s.lp.overruns := by simp [commit]
@[simp] theorem commit_bd_e (s0 s : State) : (commit s0 s).bd.e = s.bd.e := by simp [commit]
@[simp] theorem commit_bd_c (s0 s : State) : (commit s0 s).bd.c = s.bd.c := by simp [commit]
@[simp] theorem commit_bd_dir (s0 s : State) : (commit s0 s).bd.dir = s.bd.dir := by simp [commit]
@[simp] theorem commit_bd_move (s0 s : State) : (commit s0 s).bd.move = s.bd.move := by simp [commit]
@[simp] theorem commit_bd_factor (s0 s : State) : (commit s0 s).bd.factor = s.bd.factor := by simp [commit]
@[simp] theorem commit_bd_droopWait (s0 s : State) : (commit s0 s).bd.droopWait = s.bd.droopWait := by simp [commit]
@[simp] theorem commit_bd_bdir (s0 s : State) : (commit s0 s).bd.bdir = s.bd.bdir := by simp [commit]
@[simp] theorem commit_bd_gate (s0 s : State) : (commit s0 s).bd.gate = s.bd.gate := by simp [commit]
@[simp] theorem commit_bd_reclear (s0 s : State) : (commit s0 s).bd.reclear = s.bd.reclear := by simp [commit]
@[simp] theorem commit_bd_pulses (s0 s : State) : (commit s0 s).bd.pulses = s.bd.pulses := by simp [commit]
@[simp] theorem commit_bd_marks (s0 s : State) : (commit s0 s).bd.marks = s.bd.marks := by simp [commit]
@[simp] theorem commit_bd_lastMark (s0 s : State) : (commit s0 s).bd.lastMark = s.bd.lastMark := by simp [commit]
@[simp] theorem commit_bd_referenced (s0 s : State) : (commit s0 s).bd.referenced = s.bd.referenced := by simp [commit]
@[simp] theorem commit_bd_droop (s0 s : State) : (commit s0 s).bd.droop = s.bd.droop := by simp [commit]
@[simp] theorem commit_bd_phase (s0 s : State) : (commit s0 s).bd.phase = s.bd.phase := by simp [commit]
@[simp] theorem commit_bu_view (s0 s : State) : (commit s0 s).bu.view = s.bu.view := by simp [commit]
@[simp] theorem commit_bu_heater (s0 s : State) : (commit s0 s).bu.heater = s.bu.heater := by simp [commit]
@[simp] theorem commit_bu_purge (s0 s : State) : (commit s0 s).bu.purge = s.bu.purge := by simp [commit]
@[simp] theorem commit_bu_level (s0 s : State) : (commit s0 s).bu.level = s.bu.level := by simp [commit]
@[simp] theorem commit_bu_contentErrors (s0 s : State) : (commit s0 s).bu.contentErrors = s.bu.contentErrors := by simp [commit]
@[simp] theorem commit_bu_collection (s0 s : State) : (commit s0 s).bu.collection = s.bu.collection := by simp [commit]
@[simp] theorem commit_bu_debounced (s0 s : State) : (commit s0 s).bu.debounced = s.bu.debounced := by simp [commit]
@[simp] theorem commit_bu_debounce (s0 s : State) : (commit s0 s).bu.debounce = s.bu.debounce := by simp [commit]
@[simp] theorem commit_bu_frameHeard (s0 s : State) : (commit s0 s).bu.frameHeard = s.bu.frameHeard := by simp [commit]
@[simp] theorem commit_zc_zones (s0 s : State) : (commit s0 s).zc.zones = s.zc.zones := by simp [commit]
@[simp] theorem commit_zc_rate (s0 s : State) : (commit s0 s).zc.rate = s.zc.rate := by simp [commit]
@[simp] theorem commit_zc_band (s0 s : State) : (commit s0 s).zc.band = s.zc.band := by simp [commit]
@[simp] theorem commit_zc_settle (s0 s : State) : (commit s0 s).zc.settle = s.zc.settle := by simp [commit]
@[simp] theorem commit_zc_rampWait (s0 s : State) : (commit s0 s).zc.rampWait = s.zc.rampWait := by simp [commit]
@[simp] theorem commit_zc_frozen (s0 s : State) : (commit s0 s).zc.frozen = s.zc.frozen := by simp [commit]
@[simp] theorem commit_zc_demand (s0 s : State) : (commit s0 s).zc.demand = s.zc.demand := by simp [commit]
@[simp] theorem commit_zc_want (s0 s : State) : (commit s0 s).zc.want = s.zc.want := by simp [commit]
@[simp] theorem commit_zc_floor (s0 s : State) : (commit s0 s).zc.floor = s.zc.floor := by simp [commit]
@[simp] theorem commit_zc_phase (s0 s : State) : (commit s0 s).zc.phase = s.zc.phase := by simp [commit]
@[simp] theorem commit_bl_phase (s0 s : State) : (commit s0 s).bl.phase = s.bl.phase := by simp [commit]
@[simp] theorem commit_bl_isolated (s0 s : State) : (commit s0 s).bl.isolated = s.bl.isolated := by simp [commit]
@[simp] theorem commit_bl_mute (s0 s : State) : (commit s0 s).bl.mute = s.bl.mute := by simp [commit]
@[simp] theorem commit_bl_curtailSlot (s0 s : State) : (commit s0 s).bl.curtailSlot = s.bl.curtailSlot := by simp [commit]
@[simp] theorem commit_bl_ackSlot (s0 s : State) : (commit s0 s).bl.ackSlot = s.bl.ackSlot := by simp [commit]
@[simp] theorem commit_bl_attempt (s0 s : State) : (commit s0 s).bl.attempt = s.bl.attempt := by simp [commit]
@[simp] theorem commit_bl_abandons (s0 s : State) : (commit s0 s).bl.abandons = s.bl.abandons := by simp [commit]
@[simp] theorem commit_bl_rxErrors (s0 s : State) : (commit s0 s).bl.rxErrors = s.bl.rxErrors := by simp [commit]
@[simp] theorem commit_bl_listen (s0 s : State) : (commit s0 s).bl.listen = s.bl.listen := by simp [commit]
@[simp] theorem commit_bl_silence (s0 s : State) : (commit s0 s).bl.silence = s.bl.silence := by simp [commit]
@[simp] theorem commit_bl_muteTimer (s0 s : State) : (commit s0 s).bl.muteTimer = s.bl.muteTimer := by simp [commit]
@[simp] theorem commit_bl_announce (s0 s : State) : (commit s0 s).bl.announce = s.bl.announce := by simp [commit]
@[simp] theorem commit_bl_line (s0 s : State) : (commit s0 s).bl.line = s.bl.line := by simp [commit]
@[simp] theorem commit_gc_lines (s0 s : State) : (commit s0 s).gc.lines = s.gc.lines := by simp [commit]
@[simp] theorem commit_gc_acc (s0 s : State) : (commit s0 s).gc.acc = s.gc.acc := by simp [commit]
@[simp] theorem commit_gc_requirement (s0 s : State) : (commit s0 s).gc.requirement = s.gc.requirement := by simp [commit]
@[simp] theorem commit_gc_abortPurge (s0 s : State) : (commit s0 s).gc.abortPurge = s.gc.abortPurge := by simp [commit]
@[simp] theorem commit_gc_sent (s0 s : State) : (commit s0 s).gc.sent = s.gc.sent := by simp [commit]
@[simp] theorem commit_gc_phase (s0 s : State) : (commit s0 s).gc.phase = s.gc.phase := by simp [commit]

/-! ### takeFault -/

@[simp] theorem takeFault_lp_rx (k : FaultKind) (sub : FaultSubject) (v : FaultValue) (s : State) : (takeFault k sub v s).lp.rx = s.lp.rx := rfl
@[simp] theorem takeFault_lp_gap (k : FaultKind) (sub : FaultSubject) (v : FaultValue) (s : State) : (takeFault k sub v s).lp.gap = s.lp.gap := rfl
@[simp] theorem takeFault_lp_slot (k : FaultKind) (sub : FaultSubject) (v : FaultValue) (s : State) : (takeFault k sub v s).lp.slot = s.lp.slot := rfl
@[simp] theorem takeFault_lp_reply (k : FaultKind) (sub : FaultSubject) (v : FaultValue) (s : State) : (takeFault k sub v s).lp.reply = s.lp.reply := rfl
@[simp] theorem takeFault_lp_replyTimer (k : FaultKind) (sub : FaultSubject) (v : FaultValue) (s : State) : (takeFault k sub v s).lp.replyTimer = s.lp.replyTimer := rfl
@[simp] theorem takeFault_lp_lineErrors (k : FaultKind) (sub : FaultSubject) (v : FaultValue) (s : State) : (takeFault k sub v s).lp.lineErrors = s.lp.lineErrors := rfl
@[simp] theorem takeFault_lp_overruns (k : FaultKind) (sub : FaultSubject) (v : FaultValue) (s : State) : (takeFault k sub v s).lp.overruns = s.lp.overruns := rfl

/-! ### The frame of the reactions in one line -/

/-- An event changes only the pending event set. -/
theorem raiseEvent_withoutReactions (k : EventKind) (s : State) : (raiseEvent k s).withoutReactions = s.withoutReactions := rfl
theorem boatReact_withoutReactions (s0 s : State) : (boatReact s0 s).withoutReactions = s.withoutReactions := by
  unfold boatReact; dsimp only; split <;> split <;> rfl
theorem lowerGrants_withoutReactions (s : State) : (lowerGrants s).withoutReactions = s.withoutReactions := rfl
theorem raiseCheck_withoutReactions (s : State) : (raiseCheck s).withoutReactions = s.withoutReactions := by
  unfold raiseCheck; split <;> rfl
theorem shareReact_withoutReactions (s0 s : State) : (shareReact s0 s).withoutReactions = s.withoutReactions := by
  unfold shareReact; split
  · rfl
  · rw [raiseCheck_withoutReactions, lowerGrants_withoutReactions]
theorem flowReact_withoutReactions (s0 s : State) : (flowReact s0 s).withoutReactions = s.withoutReactions := rfl
/-- The reactions change only what `withoutReactions` blanks. -/
theorem commit_withoutReactions (s0 s : State) : (commit s0 s).withoutReactions = s.withoutReactions := by
  rw [commit, flowReact_withoutReactions, shareReact_withoutReactions, boatReact_withoutReactions]

end Sys2Proof.Machine
end

