-- ==== Sys2Proof/Laws/Lines.lean ====
section
/-!
SUPPORT. Bits and bytes on the lines (R129, R131, R183): what a sender reads back of its own cells, and that bits taken eight to a
byte give back the bytes that spelled them.
-/
namespace Sys2Proof.Machine

@[simp] theorem Cell.asSent_sof : Cell.sof.asSent = false := rfl

@[simp] theorem Cell.asSent_bit (b : Bool) : (Cell.bit b).asSent = b := by cases b <;> rfl

/-- A cell in which a recessive level is read as sent carries a 1. -/
theorem Cell.asSent_eq_true (c : Cell) : c.asSent = true ↔ c = .bit true := by cases c <;> simp

@[simp] theorem bitsHigh_length (b : Byte) : (bitsHigh b).length = 8 := by simp [bitsHigh, bitsLow]

/-- Eight bits a byte. -/
theorem flatMap_bitsHigh_length (bs : List Byte) : (bs.flatMap bitsHigh).length = 8 * bs.length := by
  induction bs with
  | nil => rfl
  | cons b bs ih => simp [List.flatMap_cons, ih]; omega

/-- The bytes that the bits of bytes spell, and then what follows them. -/
theorem bytesHigh_flatMap_append (bs : List Byte) (rest : List Bool) :
    bytesHigh (bs.flatMap bitsHigh ++ rest) = bs ++ bytesHigh rest := by
  induction bs with
  | nil => rfl
  | cons b bs ih =>
    simp only [List.flatMap_cons, bitsHigh, bitsLow, List.map_cons, List.map_nil, List.reverse_cons, List.reverse_nil,
      List.nil_append, List.cons_append, bytesHigh] at ih ⊢
    rw [ih]
    congr 1
    revert b; decide +kernel

/-- Fewer than eight bits spell no byte. -/
theorem bytesHigh_of_short (bits : List Bool) (h : bits.length < 8) : bytesHigh bits = [] := by
  unfold bytesHigh
  split
  · simp at h; omega
  · rfl

/-- A frame has its header, its length and two check bytes beside the body. -/
theorem OwnFrame.bytes_length (station : Nat) (f : OwnFrame) : (f.bytes station).length = f.body.length + 4 := by
  simp [OwnFrame.bytes, bytes16]

/-- No frame of the part's own has a body above 15 bytes. -/
theorem OwnFrame.body_length_le (f : OwnFrame) : f.body.length ≤ 15 := by
  cases f <;> simp [OwnFrame.body, announceBytes, bytes16]

end Sys2Proof.Machine
end

