-- ==== Sys2Proof/Laws/Port.lean ====
section
/-!
SUPPORT. The receiver of the local port on whole frames (R170 to R173): what a request frame does, said once.
-/
namespace Sys2Proof.Machine

/-- The character that carries a byte is read as that byte (R169). -/
@[simp] theorem good_result (b : Byte) : (LpChar.good b).result = .good b := by simp [LpChar.result, LpChar.good]

/-- A reply takes eleven bit times a byte (R169). -/
theorem lptx_length (r : Reply) : r.lptx.length = 11 * r.bytes.length := by
  simp [Reply.lptx, LpChar.bits, bitsLow, List.length_flatMap, Nat.mul_comm]

/-- One byte of a frame that is not yet complete is taken into it. -/
theorem lpTake_inFrame_more (len : Byte) (got : List Byte) (b : Byte) (h : got.length + 1 < len.toNat) :
    lpTake (.inFrame (len :: got)) (.good b) = (.inFrame (len :: got ++ [b]), none) := by
  simp only [lpTake, good_result, lpFrameByte]
  rw [if_neg (by omega)]

/-- The byte that brings the count to its length completes the frame. -/
theorem lpTake_inFrame_last (len : Byte) (got : List Byte) (b : Byte) (h : got.length + 1 = len.toNat) :
    lpTake (.inFrame (len :: got)) (.good b) = (.hunting, some (checkRequest len (got ++ [b]))) := by
  simp only [lpTake, good_result, lpFrameByte]
  rw [if_pos h]

/-- Bytes that do not complete the frame are taken into it. -/
theorem lpFeed_inFrame_more (len : Byte) (got bs : List Byte) (h : got.length + bs.length < len.toNat) :
    lpFeed (.inFrame (len :: got)) (bs.map .good) = (.inFrame (len :: got ++ bs), []) := by
  induction bs generalizing got with
  | nil => simp [lpFeed]
  | cons b bs ih =>
    have h1 : got.length + 1 < len.toNat := by simp at h; omega
    have h2 := ih (got ++ [b]) (by simp at h ⊢; omega)
    simp only [List.map_cons, lpFeed]
    rw [lpTake_inFrame_more len got b h1]
    simp only [List.cons_append] at h2 ⊢
    rw [h2]
    simp

/-- The characters one after another, in two parts. -/
theorem lpFeed_append (rx : LpReceiver) (cs ds : List LpChar) :
    lpFeed rx (cs ++ ds) =
      ((lpFeed (lpFeed rx cs).1 ds).1, (lpFeed rx cs).2 ++ (lpFeed (lpFeed rx cs).1 ds).2) := by
  induction cs generalizing rx with
  | nil => simp [lpFeed]
  | cons c cs ih => simp [lpFeed, ih]

/-- A whole frame that meets HUNTING leaves HUNTING and forms one entry, whatever its check byte (R170, R172). -/
theorem lpFeed_frameChars (kind : Byte) (body : List Byte) (check : Byte) (h : body.length ≤ 44) :
    lpFeed .hunting (frameChars kind body check) =
      (.hunting, [checkRequest (BitVec.ofNat 8 (body.length + 2)) (kind :: body ++ [check])]) := by
  have hl : (BitVec.ofNat 8 (body.length + 2)).toNat = body.length + 2 := by
    simp; omega
  have h1 := lpFeed_inFrame_more (BitVec.ofNat 8 (body.length + 2)) [] (kind :: body) (by rw [hl]; simp)
  have h2 := lpTake_inFrame_last (BitVec.ofNat 8 (body.length + 2)) (kind :: body) check (by rw [hl]; simp)
  have h3 : lpFeed (.inFrame [BitVec.ofNat 8 (body.length + 2)]) ((kind :: body ++ [check]).map .good) =
      (.hunting, [checkRequest (BitVec.ofNat 8 (body.length + 2)) (kind :: body ++ [check])]) := by
    have h4 := lpFeed_append (.inFrame [BitVec.ofNat 8 (body.length + 2)]) ((kind :: body).map .good) [.good check]
    rw [h1] at h4
    simp only [List.singleton_append] at h4
    have h5 : lpFeed (.inFrame (BitVec.ofNat 8 (body.length + 2) :: kind :: body)) [.good check] =
        (.hunting, [checkRequest (BitVec.ofNat 8 (body.length + 2)) (kind :: body ++ [check])]) := by
      simp only [lpFeed]; rw [h2]; rfl
    rw [h5] at h4
    rw [List.map_append]
    simpa using h4
  have h6 : 2 ≤ (BitVec.ofNat 8 (body.length + 2)).toNat ∧ (BitVec.ofNat 8 (body.length + 2)).toNat ≤ 46 := by
    rw [hl]; omega
  have h7 : lpTake .hunting (.good 0xA8) = (.inFrame [], none) := rfl
  have h8 : lpTake (.inFrame []) (.good (BitVec.ofNat 8 (body.length + 2))) =
      (.inFrame [BitVec.ofNat 8 (body.length + 2)], none) := by
    simp only [lpTake, good_result, lpFrameByte]; rw [if_pos h6]
  rw [show frameChars kind body check = .good 0xA8 :: .good (BitVec.ofNat 8 (body.length + 2)) ::
    (kind :: body ++ [check]).map .good by simp [frameChars], lpFeed, h7]
  dsimp only
  rw [lpFeed, h8]
  dsimp only
  rw [h3]
  rfl

/-- The sum of bytes over an end. -/
theorem byteSum_append_singleton (bs : List Byte) (b : Byte) : byteSum (bs ++ [b]) = byteSum bs + b := by
  simp [byteSum]

/-- A request frame with the check byte of R193 passes the sum of R172. -/
theorem checkRequest_requestCheck (kind : Byte) (body : List Byte) :
    checkRequest (BitVec.ofNat 8 (body.length + 2)) (kind :: body ++ [requestCheck kind body]) =
      .request kind body := by
  have h : byteSum (BitVec.ofNat 8 (body.length + 2) :: (kind :: body ++ [requestCheck kind body])) = 0 := by
    rw [show BitVec.ofNat 8 (body.length + 2) :: (kind :: body ++ [requestCheck kind body]) =
      (BitVec.ofNat 8 (body.length + 2) :: kind :: body) ++ [requestCheck kind body] from rfl,
      byteSum_append_singleton, requestCheck]
    simp
  rw [checkRequest, if_pos h]
  simp [byteAt]

/-- A whole request frame with a good sum that meets HUNTING forms its request entry and nothing else. -/
theorem lpFeed_requestChars (kind : Byte) (body : List Byte) (h : body.length ≤ 44) :
    lpFeed .hunting (requestChars kind body) = (.hunting, [.request kind body]) := by
  rw [requestChars, lpFeed_frameChars _ _ _ h, checkRequest_requestCheck]

/-- A whole request frame that meets a receiver in HUNTING offers its entry (R173). -/
theorem receiveChars_requestChars (kind : Byte) (body : List Byte) (s : State) (h : body.length ≤ 44)
    (hr : s.lp.rx = .hunting) :
    receiveChars (requestChars kind body) s = offerEntry (.request kind body) { s with lp.gap := 0 } := by
  rw [receiveChars, hr, lpFeed_requestChars _ _ h]
  simp [formEntry, ← hr, requestChars, frameChars]

/-- A request that finds the port ready is served at once (R173, R174). -/
theorem receiveChars_ready (kind : Byte) (body : List Byte) (s : State) (h : body.length ≤ 44) (hr : s.portReady) :
    receiveChars (requestChars kind body) s = serveEntry (.request kind body) { s with lp.gap := 0 } := by
  rw [receiveChars_requestChars kind body s h hr.1, offerEntry]
  simp [hr.2]

/-- SKIPPING ignores every character (R170). -/
theorem lpFeed_skipping (cs : List LpChar) : lpFeed .skipping cs = (.skipping, []) := by
  induction cs with
  | nil => rfl
  | cons c cs ih => simp [lpFeed, lpTake, ih]

end Sys2Proof.Machine
end

