-- ==== Sys2Proof/Laws/Requests.lean ====
section
/-!
SUPPORT. The request commands, said once: a request whose frame meets a ready port is served at once by its owner.
-/
namespace Sys2Proof.Machine

/-- A command that no abort order waits for runs alone. -/
theorem beforeOrder_of_none (f : State → State) {s : State} (h : s.rs.abortOrdered = false) : beforeOrder f s = f s := by
  simp [beforeOrder, h]

/-- A request command is its whole frame arriving, where no abort order waits for a FAULT-CLEAR or a RUN-RESUME (log 35). -/
theorem exec_command (r : Request) (body : List Byte) (s : State)
    (ho : r = .faultClear ∨ r = .runResume → s.rs.abortOrdered = false) :
    exec (r.command body) s = .next (receiveRequest r body s) := by
  cases r <;> first | rfl | exact congrArg _ (beforeOrder_of_none _ (ho (by simp)))

/-- A request command that meets HUNTING offers its entry (R173). -/
theorem exec_command_hunting (r : Request) (body : List Byte) (s : State) (hr : s.lp.rx = .hunting)
    (ho : r = .faultClear ∨ r = .runResume → s.rs.abortOrdered = false) (hb : body.length ≤ 44) :
    exec (r.command body) s = .next (offerEntry (.request r.kind body) s.heard) := by
  rw [exec_command _ _ _ ho, receiveRequest, receiveChars_requestChars _ _ _ hb hr]; rfl

/-- A request command that meets a ready port is served at once (R173, R174). -/
theorem exec_command_ready (r : Request) (body : List Byte) (s : State) (h : s.portReady)
    (ho : r = .faultClear ∨ r = .runResume → s.rs.abortOrdered = false) (hb : body.length ≤ 44) :
    exec (r.command body) s = .next (serveEntry (.request r.kind body) s.heard) := by
  rw [exec_command _ _ _ ho, receiveRequest, receiveChars_ready _ _ _ hb h]; rfl

/-- The kind byte of a request names it (R194). -/
@[simp] theorem readRequest_kind (r : Request) : readRequest r.kind = some r := by cases r <;> rfl

/-- From the release on, a request of the right length reaches its owner (R175). -/
theorem serveRequest_released (r : Request) (body : List Byte) (s : State) (h : s.released = true)
    (hl : r.fixedLength = none ∨ r.fixedLength = some body.length) :
    serveRequest r.kind body s = serveOwner r body s := by
  rcases hl with hl | hl <;> simp [serveRequest, h, hl]

/-- A request of the right length, from the release on, that meets a ready port: what its owner decides, and the reply. -/
theorem exec_command_owner (r : Request) (body : List Byte) (s : State) (h : s.portReady)
    (ho : r = .faultClear ∨ r = .runResume → s.rs.abortOrdered = false) (hb : body.length ≤ 44) (hr : s.released = true) (hl : r.fixedLength = none ∨ r.fixedLength = some body.length) :
    exec (r.command body) s = .next (sendReply
      ⟨r.kind, (serveOwner r body s.heard).code, (serveOwner r body s.heard).body⟩ (serveOwner r body s.heard).state) := by
  rw [exec_command_ready r body s h ho hb, serveEntry, serveRequest_released r body s.heard hr hl]

/-- The only character read as a byte is the one that carries it (R169). -/
theorem result_eq_good {c : LpChar} {b : Byte} : c.result = .good b ↔ c = .good b := by
  constructor
  · intro h
    obtain ⟨d, p, st⟩ := c
    cases st <;> simp only [LpChar.result] at h
    · exact absurd h (by simp)
    · split at h
      · split at h
        · cases h; subst p; rfl
        · cases h
      · cases h
  · rintro rfl; exact good_result b

/-- Good bytes that do not complete a frame leave the receiver in it (R170). -/
theorem lpFeed_unfinished (cs : List LpChar) (h : unfinished cs = true) :
    ∃ bs, lpFeed (.inFrame []) cs = (.inFrame bs, []) := by
  match cs with
  | [] => exact ⟨[], rfl⟩
  | c :: rest =>
    rw [unfinished] at h
    cases hc : c.result with
    | parityError => simp [hc] at h
    | framingError => simp [hc] at h
    | good len =>
      simp only [hc, Bool.and_eq_true, decide_eq_true_eq, List.all_eq_true] at h
      obtain ⟨⟨h1, h2, h3⟩, h4⟩ := h
      obtain rfl := result_eq_good.1 hc
      have hm : ∃ bs : List Byte, rest = bs.map .good := by
        clear h3
        induction rest with
        | nil => exact ⟨[], rfl⟩
        | cons c cs ih =>
          obtain ⟨bs, rfl⟩ := ih fun x hx => h4 x (List.mem_cons_of_mem _ hx)
          have h6 := h4 c (by simp)
          cases hc : c.result with
          | good b => obtain rfl := result_eq_good.1 hc; exact ⟨b :: bs, rfl⟩
          | parityError => simp [hc] at h6
          | framingError => simp [hc] at h6
      obtain ⟨bs, rfl⟩ := hm
      refine ⟨len :: bs, ?_⟩
      have h5 : lpTake (.inFrame []) (.good len) = (.inFrame [len], none) := by
        simp only [lpTake, good_result, lpFrameByte]; rw [if_pos ⟨h1, h2⟩]
      rw [lpFeed, h5]
      dsimp only
      rw [lpFeed_inFrame_more len [] bs (by simpa using h3)]
      rfl

/-- Characters that end a frame with a line error form its REJECT entry and leave SKIPPING (R171). -/
theorem lpFeed_endsInLineError (cs : List LpChar) (h : endsInLineError cs = true) :
    lpFeed .hunting cs = (.skipping, [.reject]) := by
  match cs with
  | [] => simp [endsInLineError] at h
  | start :: rest =>
    simp only [endsInLineError, Bool.and_eq_true, decide_eq_true_eq] at h
    obtain ⟨hs, h⟩ := h
    obtain rfl := result_eq_good.1 hs
    have h0 : lpTake .hunting (.good 0xA8) = (.inFrame [], none) := rfl
    rw [lpFeed, h0]
    dsimp only
    suffices hs : lpFeed (.inFrame []) rest = (.skipping, [.reject]) by rw [hs]; rfl
    cases hl : rest.getLast? with
    | none => simp [hl] at h
    | some c =>
      rw [hl, Option.map_some] at h
      obtain ⟨ys, rfl⟩ := List.getLast?_eq_some_iff.1 hl
      have herr : (∀ b, c.result ≠ .good b) → unfinished ys = true →
          lpFeed (.inFrame []) (ys ++ [c]) = (.skipping, [.reject]) := by
        intro hc hu
        obtain ⟨bs, hb⟩ := lpFeed_unfinished _ hu
        rw [lpFeed_append, hb]
        cases hr : c.result with
        | good b => exact absurd hr (hc b)
        | parityError => simp [lpFeed, lpTake, hr]
        | framingError => simp [lpFeed, lpTake, hr]
      cases hr : c.result with
      | good len =>
        simp only [hr, decide_eq_true_eq] at h
        obtain rfl := result_eq_good.1 hr
        obtain rfl : ys = [] := by simpa using h.1
        have h5 : lpTake (.inFrame []) (.good len) = (.skipping, some .reject) := by
          simp only [lpTake, good_result, lpFrameByte]; rw [if_neg (by omega)]
        rw [List.nil_append, lpFeed, h5]; rfl
      | parityError => rw [hr] at h; exact herr (by simp [hr]) (by simpa using h)
      | framingError => rw [hr] at h; exact herr (by simp [hr]) (by simpa using h)

/-- A reply to a state that the owner left as it was. -/
theorem sendReply_heard (r : Reply) (s : State) : sendReply r s.heard = s.answered r := rfl

end Sys2Proof.Machine
end

