-- ==== Sys2Proof/Laws/Shares.lean ====
section
/-!
SUPPORT. The share computation and the reactions to a change of its inputs (R114, R120, R121), said once: what `commit` does to
the held grants, the ANNOUNCE slot and the outbound queue.
-/
namespace Sys2Proof.Machine

/-- States that agree in these blocks have the same inputs of the share computation. -/
theorem shareInputs_congr {s t : State} (hcl : t.cl = s.cl) (hrun : t.rs.run = s.rs.run) (he : t.bd.e = s.bd.e)
    (hh : t.bu.heater = s.bu.heater) (hp : t.bu.purge = s.bu.purge) (hv : t.bu.view = s.bu.view)
    (hl : t.bu.level = s.bu.level) (hi : t.bl.isolated = s.bl.isolated) : t.shareInputs = s.shareInputs := by
  have hr : t.rank = s.rank := by
    unfold State.rank State.released State.image; rw [hcl, hrun, he]
  simp [State.shareInputs, State.beff, State.peersCounted, State.image, hcl, hh, hp, hv, hl, hi, hr]

/-- The computed grants are a function of the inputs of the share computation (R114). -/
theorem computedGrant_congr {s t : State} (h : s.shareInputs = t.shareInputs) (p : Supply) :
    s.computedGrant p = t.computedGrant p := by
  simp only [State.shareInputs, ShareInputs.mk.injEq] at h
  obtain ⟨h1, h2, h3, h4, h5, h6, h7, -, h9, h10⟩ := h
  cases p <;>
    simp [State.computedGrant, State.ownDemand, State.ownCounted, h1, h2, h3, h4, h5, h6, h7, h9, h10]

@[simp] theorem raiseEvent_shareInputs (k : EventKind) (s : State) : (raiseEvent k s).shareInputs = s.shareInputs := rfl

@[simp] theorem boatReact_shareInputs (s0 s : State) : (boatReact s0 s).shareInputs = s.shareInputs :=
  shareInputs_congr (by simp) (by simp) (by simp) (by simp) (by simp) (by simp) (by simp) (by simp)

@[simp] theorem lowerGrants_shareInputs (s : State) : (lowerGrants s).shareInputs = s.shareInputs :=
  shareInputs_congr (by simp) (by simp) (by simp) (by simp) (by simp) (by simp) (by simp) (by simp)

@[simp] theorem raiseCheck_shareInputs (s : State) : (raiseCheck s).shareInputs = s.shareInputs :=
  shareInputs_congr (by simp) (by simp) (by simp) (by simp) (by simp) (by simp) (by simp) (by simp)

@[simp] theorem commit_shareInputs (s0 s : State) : (commit s0 s).shareInputs = s.shareInputs :=
  shareInputs_congr (by simp) (by simp) (by simp) (by simp) (by simp) (by simp) (by simp) (by simp)

@[simp] theorem commit_computedGrant (s0 s : State) (p : Supply) :
    (commit s0 s).computedGrant p = s.computedGrant p := computedGrant_congr (commit_shareInputs s0 s) p

/-- The lowering of R120: each held grant falls to its computed grant where it was above it. -/
theorem lowerGrants_heldGrant (s : State) (p : Supply) :
    (lowerGrants s).heldGrant p = min (s.heldGrant p) (s.computedGrant p) := by cases p <;> rfl

@[simp] theorem raiseCheck_heldGrant (s : State) (p : Supply) : (raiseCheck s).heldGrant p = s.heldGrant p := by
  cases p <;> simp [State.heldGrant]

@[simp] theorem boatReact_heldGrant (s0 s : State) (p : Supply) : (boatReact s0 s).heldGrant p = s.heldGrant p := by
  cases p <;> simp [State.heldGrant]

@[simp] theorem flowReact_heldGrant (s0 s : State) (p : Supply) : (flowReact s0 s).heldGrant p = s.heldGrant p := by
  cases p <;> rfl

/-- What the reactions do to a held grant: nothing where no input of the shares changed, and the lowering of R120 where one
did. -/
theorem commit_heldGrant (s0 s : State) (p : Supply) :
    (commit s0 s).heldGrant p =
      if s0.shareInputs = s.shareInputs then s.heldGrant p else min (s.heldGrant p) (s.computedGrant p) := by
  have h : (boatReact s0 s).computedGrant p = s.computedGrant p := computedGrant_congr (boatReact_shareInputs s0 s) p
  simp only [commit, flowReact_heldGrant, shareReact, boatReact_shareInputs]
  split
  · simp
  · rw [raiseCheck_heldGrant, lowerGrants_heldGrant, boatReact_heldGrant, h]

/-- The reactions never raise a held grant (R119). -/
theorem commit_heldGrant_le (s0 s : State) (p : Supply) : (commit s0 s).heldGrant p ≤ s.heldGrant p := by
  rw [commit_heldGrant]; split
  · exact le_rfl
  · exact min_le_left _ _

/-- The raise check of R121: the slot is pending afterwards where a computed grant is above its held grant. -/
theorem raiseCheck_announceSlot (s : State) :
    (raiseCheck s).bl.announceSlot = (s.bl.announceSlot ||
      decide (s.bu.heldHeater < s.computedGrant .heater ∨ s.bu.heldPurge < s.computedGrant .purge)) := by
  unfold raiseCheck
  split
  · next h => simp [h]
  · next h => simp [h]

/-- The reactions never empty the ANNOUNCE slot (R121). -/
theorem commit_announceSlot (s0 s : State) (h : s.bl.announceSlot = true) : (commit s0 s).bl.announceSlot = true := by
  simp only [commit, flowReact_bl, shareReact]
  split
  · simpa using h
  · rw [raiseCheck_announceSlot]; simp [h]

/-- A line that joins the outbound queue is in it, and so is every line that was (R75). -/
theorem mem_joinQueue (l m : GasLine) (q : List GasLine) : m ∈ joinQueue l q ↔ m = l ∨ m ∈ q := by
  unfold joinQueue
  split
  · next h => constructor
              · exact Or.inr
              · rintro (rfl | h') <;> assumption
  · simp [or_comm]

/-- Joining keeps each line in the queue at most once (R75). -/
theorem joinQueue_nodup (l : GasLine) (q : List GasLine) (h : q.Nodup) : (joinQueue l q).Nodup := by
  unfold joinQueue
  split
  · exact h
  · next hl => exact List.nodup_append.2 ⟨h, by simp, by simpa using fun a ha => by rintro rfl; exact hl ha⟩

end Sys2Proof.Machine
end

