-- ==== Sys2Proof/Tests/Slice0.lean ====
section
/-!
SUPPORT. Own tests: ill-formed commands are refused, one step on a small state gives what the manual's worked examples and tables
say, and each statement's hypotheses are met by a concrete state (a witness for each clause, at the ends of its ranges).
Expected values come from the manual, by its tables or by hand from its rules.
-/
namespace Sys2Proof.Tests
open Sys2Proof.Machine
set_option Elab.async false

/-! ### Small states -/

/-- The state a command leaves. -/
def after (c : Instr) (s : State) : State :=
  match exec c s with
  | .next t => t
  | _ => s

/-- An image in force: the ratings of "drive of five zones under the cap", the budgets of the two share examples, the marks of
"two marks during a push". -/
def image : Image where
  station := 1
  fromStraps := false
  bankSize := 4
  curtailSource := true
  oxidantDisabled := false
  announcePeriod := 1000
  heaterBudget := 1000
  purgeBudget := 600
  used := ⟨true, true, true, true, true⟩
  rating := ⟨120, 100, 80, 80, 60⟩
  kp := ⟨40, 40, 40, 40, 40⟩
  ki := ⟨8, 8, 8, 8, 8⟩
  ceiling := 12500
  zoneLimit := 12500
  idleTemperature := 6000
  idleRate := 100
  settleTime := 30
  tubeVolume := 150
  bleedFloor := 20
  abortPurgeFlow := 250
  abortPurgeRequirement := 30
  abortTimeout := 600
  pIn := 15000
  pMouth := 2000
  pRef := 500
  stallLimit := 50
  slipLimit := 50
  flowTolerance := 10

/-- The bytes of a valid image: station 2, bank of 4, zones Z1 and Z3, everything else as `image` has it. -/
def imageBytes : List Byte :=
  let b := [0xC3, 2, 4, 0, 100] ++ bytesOf 2 1000 ++ bytesOf 2 600 ++ [0x05] ++ [120, 100, 80, 80, 60] ++
    [40, 40, 40, 40, 40] ++ [8, 8, 8, 8, 8] ++ bytesOf 2 12500 ++ bytesOf 2 6000 ++ [100] ++ bytesOf 2 30 ++
    bytesOf 2 150 ++ [20] ++ bytesOf 2 250 ++ [30] ++ bytesOf 2 600 ++ bytesOf 2 15000 ++ bytesOf 2 2000 ++
    bytesOf 2 500 ++ bytesOf 2 50 ++ [50, 10]
  let c := b ++ List.replicate (63 - b.length) 0
  c ++ [0 - byteSum c]

/-- A valid channel that read `v`. -/
def channel (v : Int) : Channel := ⟨.ok, some v, some 0, .running 2000⟩

/-- Before the release, reading the serial memory, with LP ready. -/
def loading : State := { State.reset with lp := { Port.reset with rx := .hunting } }

/-- PORT-WAIT with a valid image staged. -/
def portWait : State :=
  { loading with cl := { Loader.reset with startup := .portWait, cfgsrc := .port, staging := imageBytes } }

/-- READY and NORMAL in IDLE, all zones in NORMAL, nothing granted yet. -/
def live : State := { State.reset with
  cl := { Loader.reset with startup := .ready, image := some image }
  zm := { Measurement.reset with
    zones := PerZone.build fun _ => ⟨.normal, channel 8950, channel 9100, 0, none, .stopped⟩, phase := .running 500 }
  zc := { Heat.reset with
    zones := PerZone.build fun _ => ⟨some 9000, some 1080000, 76800, 0, .running 0⟩
    rate := some 100, band := some 0, phase := .running 500 }
  gc := { Gas.reset with
    lines := ⟨⟨20, .ok, some 20, some 0, .running 2000, none, false, false, .running 1000⟩,
      ⟨0, .ok, some 0, some 0, .running 2000, none, false, false, .running 1000⟩,
      ⟨0, .ok, some 0, some 0, .running 2000, none, false, false, .running 1000⟩⟩
    phase := .running 500 }
  bd := { Boat.reset with phase := .running 100 }
  bu := { Budget.reset with purge := ⟨20, 20⟩ }
  bl := { Bank.reset with
    phase := .on, announceSlot := true, silence := .running 5000, announce := .running 1000, line := .idle }
  lp := { Port.reset with rx := .hunting } }

/-- A record without parts whose only condition is DWELL of 5 s. -/
def dwellStep : StepRecord := ⟨7, none, none, none, ⟨false, false, false, true⟩, 5, 60, false⟩

/-- A record with a boat part: full-in at 300 mm/min with droop limit 400. -/
def pushStep : StepRecord := ⟨8, none, none, some ⟨15000, 300, 400⟩, ⟨false, true, false, false⟩, 0, 0, true⟩

/-- Some other run state. -/
def inRun (run : RunState) (prior : Option PriorState) (current : Option StepRecord) (queue : List StepRecord) (s : State) :
    State :=
  { s with
    rs := { s.rs with
      run := run, prior := prior, current := current, queue := queue
      labelInForce := if run = .idle then none else some 7
      dwell := if run = .running then ⟨.counting, 4999, false⟩ else ⟨.stopped, 0, false⟩
      stepTimer := if run = .running then .running 1 else .stopped
      abortTimer := if run = .aborting then .running 1 else .stopped
      clockPhase := if run = .idle then .stopped else .running 1000 }
    gc := { s.gc with abortPurge := decide (run = .aborting) } }

def queued : State := inRun .idle none none [dwellStep] live
def running : State := inRun .running none (some dwellStep) [] live
def starved : State := inRun .starved none none [] live
def heldRun : State := inRun .held (some .running) (some dwellStep) [] live
def heldStarved : State := inRun .held (some .starved) none [dwellStep] live
def aborting : State := inRun .aborting none none [] live
/-- The same with an abort order that waits. -/
def ordered (s : State) : State := { s with rs := { s.rs with abortOrdered := true } }

/-- MOVING inward at P_ref, three positions behind. -/
def moving : State := { running with
  pins := { running.pins with loadclr := true }
  bd := { running.bd with
    e := 500, c := 503, move := some ⟨12000, 300, 0⟩, gate := .opened, pulse := some 0, referenced := true } }

/-- The same with a reply in progress and a waiting entry. -/
def replying : State :=
  { live with lp := { live.lp with reply := some ⟨1, .ok, []⟩, replyTimer := .running 1, slot := some (.badCheck 9) } }

/-- An attempt under way. -/
def sending (f : OwnFrame) : State :=
  { live with bl := { live.bl with attempt := some ⟨f, false⟩, line := .busy, abandons := 7 } }

/-- An ANNOUNCE body: heater 200, 300, 300, purge 20, 200, 200, rank 2, RUNNING, level 50. -/
def body : AnnounceBody := ⟨200, 300, 300, 20, 200, 200, 2, 1, 50⟩

/-! ### Well-formedness refuses -/

theorem wf_refuses_serial_length : (Instr.serialMemoryReadEnd []).wf = false := by decide
theorem wf_refuses_long_request : (Instr.statusRead (List.replicate 45 0)).wf = false := by decide
theorem wf_refuses_lineError_without_end : (Instr.lineError [.good 0xA8, .good 2]).wf = false := by decide
theorem wf_refuses_lineError_without_start : (Instr.lineError [.good 0xA7, .good 1]).wf = false := by decide
theorem wf_refuses_gap_after_whole_frame :
    (Instr.lpGapTimeout [.good 0xA8, .good 2, .good 1, .good 0]).wf = false := by decide
theorem wf_refuses_badCheck_with_good_sum : (Instr.badCheckFrame 1 [] 0xFD).wf = false := by decide
theorem wf_refuses_long_earlyEnd : (Instr.bankFrameError (.earlyEnd (List.replicate 19 0))).wf = false := by decide
theorem wf_refuses_badLength_in_range : (Instr.bankFrameError (.badLength 0 15)).wf = false := by decide
theorem wf_refuses_complete_length : (Instr.bankFrameError (.complete 0 2 [1] 0)).wf = false := by decide
theorem wf_refuses_station_zero : (Instr.entryStale 0).wf = false ∧ (Instr.entryRemoved 9).wf = false := by decide
theorem wf_refuses_used_kind : (Instr.otherKindFrame 4 0 []).wf = false := by decide
theorem wf_refuses_named_kind : (Instr.unknownKindRequest 0x20 []).wf = false := by decide
theorem wf_takes_the_boundaries :
    (Instr.stepAppend (List.replicate 44 0)).wf = true ∧ (Instr.lineError [.good 0xA8, .good 47]).wf = true ∧
    (Instr.lineError [.good 0xA8, ⟨0, true, true⟩]).wf = true ∧ (Instr.lpGapTimeout []).wf = true ∧
    (Instr.lpGapTimeout [.good 0xA8]).wf = true ∧ (Instr.badCheckFrame 1 [] 0).wf = true ∧
    (Instr.bankFrameError (.badLength 0 16)).wf = true ∧ (Instr.otherKindFrame 7 0 []).wf = true ∧
    (Instr.unknownKindRequest 0x06 []).wf = true ∧ (Instr.entryStale 8).wf = true := by decide

/-! ### Checks and layouts (chapter 12) -/

theorem test_crc_of_the_digits : crc16 [0x31, 0x32, 0x33, 0x34, 0x35, 0x36, 0x37, 0x38, 0x39] = 0x29B1 := by
  decide +kernel
/-- The headers of "three stations meet on an idle line". -/
theorem test_headers : headerByte 4 1 = 135 ∧ headerByte 4 2 = 139 ∧ headerByte 2 4 = 83 := by decide
/-- "Three stations meet on an idle line": at bit 7 the line carries S5's 0, on which S2 and S3 lose; the next time S2 and S3 agree in
bits 7 to 4, and S3 loses on S2's 0 at bit 3. A station alone reads back its own bits. -/
theorem test_arbitration :
    let ends := fun (header : Byte) (read : List Bool) => cellsEnd 1 ((bitsHigh header).map .bit) read
    let line := fun bits : List Bool => lineRead (bits.map fun b => some (.bit b))
    line [true, true, false] = false ∧ ends 135 [false] = some .arbitrationLost ∧ ends 139 [false] = some .arbitrationLost ∧
    (∀ b, lineRead [none, none, some (.bit b)] = b) ∧
    [line [true, true], line [false, false], line [false, false], line [false, false], line [false, true]] =
      [true, false, false, false, false] ∧
    ends 135 [true, false, false, false, false] = none ∧
    ends 139 [true, false, false, false, false] = some .arbitrationLost := by decide +kernel
/-- 153, 41 and 49 cells (R131). -/
theorem test_cell_counts : ((OwnFrame.announce body).cells 2).length = 153 ∧ ((OwnFrame.curtail .l50).cells 2).length = 41 ∧
    ((OwnFrame.ack .l50 3).cells 2).length = 49 := by decide +kernel
/-- 0xE5 least significant bit first, between start and stop bit (R198). -/
theorem test_field_character : fieldChar 0xE5 = [false, true, false, true, false, false, true, true, true, true] := by decide
theorem test_image_bytes_pass : imageBytes.length = 64 ∧ imageFault imageBytes = none := by decide +kernel
theorem test_setpoint_record : setpointBytes ⟨.carrier, 0x0102⟩ = [0xE5, 0xB0, 0x01, 0x02, 0x4D] := by decide +kernel
theorem test_reply_bytes : (Reply.mk 0x22 .state []).bytes = [0xA9, 0x00, 0x03, 0x22, 0x10, 0xCB] := by decide +kernel

/-! ### Resets and configuration -/

theorem test_powerOnReset : after .powerOnReset live =
    { State.reset with resetHeld := some .powerOn } := by decide +kernel
theorem test_warmReset_keeps_log :
    (after .warmReset { live with fl := { live.fl with count := 3 } }).fl.count = 3 ∧
    (after .warmReset live).cl.image = none := by decide +kernel
theorem test_resetEnd_port : (after (.resetEnd .port 5) (after .warmReset live)).cl.startup = .portWait := by decide +kernel
theorem test_serialMemoryReadEnd : (after (.serialMemoryReadEnd imageBytes) loading).cl.startup = .joining ∧
    (after (.serialMemoryReadEnd (List.replicate 64 0)) loading).cl.startup = .notConfigured := by decide +kernel
/-- The lines of a read: 0x03 on SMDO ends in two 1s, SMCK is low before it is high and is released after 528 clocks. -/
theorem test_memory_lines : [0, 12, 13, 15].map loading.smdo = [some false, some true, some true, some true] ∧
    [0, 1, 1054, 1055, 1056].map loading.smck = [some false, some true, some false, some true, none] ∧
    (after (.serialMemoryReadEnd imageBytes) loading).smck 1 = none ∧ (after .warmReset loading).smckDriven = false := by
  decide +kernel
theorem test_release_image : (after (.serialMemoryReadEnd imageBytes) loading).image =
    { image with station := 2, curtailSource := false, used := ⟨true, false, true, false, false⟩ } := by decide +kernel
theorem test_configWrite : byteAt (after (.configWrite [63, 0xAA]) portWait).cl.staging 63 = 0xAA ∧
    (after (.configWrite [63, 1, 2]) portWait).lp.reply = some ⟨0x40, .badFormat, []⟩ := by decide +kernel
theorem test_configDone : (after (.configDone []) portWait).lp.reply = some ⟨0x41, .ok, []⟩ ∧
    (after (.configDone []) portWait).linkState = .joining := by decide +kernel

/-! ### Requests -/

theorem test_statusRead_before_release : ((after (.statusRead []) loading).lp.reply.map (·.code)) = some .ok := by decide +kernel
theorem test_zoneRead_before_release :
    (after (.zoneRead []) loading).lp.reply = some ⟨0x02, .notConfigured, []⟩ := by decide +kernel
theorem test_viewRead_bad_format : (after (.viewRead [0]) live).lp.reply = some ⟨0x03, .badFormat, []⟩ := by decide +kernel
theorem test_eventRead_empties :
    (after (.eventRead []) (raiseEvent .held live)).lp.events = [] := by decide +kernel
theorem test_faultRead : ((after (.faultRead []) live).lp.reply.map (·.kind)) = some 0x05 := by decide +kernel
theorem test_faultClear_aborting : (after (.faultClear []) aborting).lp.reply = some ⟨0x10, .state, []⟩ := by decide +kernel
/-- Label 7, no part, DWELL, 5 s, timeout 60 s. -/
theorem test_stepAppend : (after (.stepAppend [0, 7, 0, 0x08, 0, 5, 0, 60]) live).rs.queue = [dwellStep] := by decide +kernel
theorem test_stepAppend_starved :
    (after (.stepAppend [0, 7, 0, 0x08, 0, 5, 0, 60]) starved).rs.current = some dwellStep := by decide +kernel
theorem test_queueClear : (after (.queueClear []) queued).rs.queue = [] ∧
    (after (.queueClear []) running).lp.reply = some ⟨0x21, .state, []⟩ := by decide +kernel
theorem test_runStart : (after (.runStart []) queued).rs.run = .running ∧
    (after (.runStart []) live).lp.reply = some ⟨0x22, .empty, []⟩ := by decide +kernel
theorem test_runHold : (after (.runHold []) starved).rs.prior = some .starved := by decide +kernel
theorem test_runResume : (after (.runResume []) heldRun).rs.run = .running ∧
    (after (.runResume []) heldStarved).rs.current = some dwellStep := by decide +kernel
/-- The abort purge gives BU the want 250 and the floor min(250, 20), as in "purge shares for an aborting tube". -/
theorem test_runAbort : (after (.runAbort []) running).bu.purge = ⟨20, 250⟩ ∧ (after (.runAbort []) running).rank = 3 := by
  decide +kernel
theorem test_boatMove : (after (.boatMove [0x50, 0x00, 0x00, 0x05]) live).bd.move = some ⟨15000, 10, 0⟩ := by decide +kernel
theorem test_lineError : (after (.lineError [.good 0xA8, .good 47]) live).lp.lineErrors = 1 ∧
    (after (.lineError [.good 0xA8, .good 47]) live).lp.reply = some ⟨0, .reject, [0x01]⟩ := by decide +kernel
theorem test_lpGapTimeout : (after (.lpGapTimeout [.good 0xA8, .good 2]) live).lp.lineErrors = 1 := by decide +kernel
theorem test_badCheckFrame : (after (.badCheckFrame 1 [] 0) live).lp.reply = some ⟨1, .badCheck, []⟩ := by decide +kernel
theorem test_replyEnd : (after .replyEnd replying).lp.reply = some ⟨9, .badCheck, []⟩ := by decide +kernel
theorem test_unknownKindRequest :
    (after (.unknownKindRequest 0x06 []) live).lp.reply = some ⟨0x06, .badFormat, []⟩ := by decide +kernel

/-! ### The run -/

theorem test_dwellExpiry : (after .dwellExpiry running).rs.run = .starved ∧
    (after .dwellExpiry running).rs.lastLabel = some 7 := by decide +kernel
theorem test_stepTimeoutExpiry : (after .stepTimeoutExpiry running).rs.run = .held := by decide +kernel
theorem test_abortTimeout : (after .abortTimeout aborting).rs.run = .idle ∧
    ((after .abortTimeout aborting).fl.first.map (·.kind)) = some .abortIncomplete := by decide +kernel
theorem test_runClockTick : (after .runClockTick running).rs.clock = 1 := by decide +kernel

/-! ### Zones and heaters -/

/-- Profile of Z1, status OK, 12501: above the zone limit of 12500. -/
theorem test_sampleRecord_overtemp :
    ((after (.sampleRecord 0x00 0x30 0xD5 0xFB) running).zoneM .z1).state = .overtemp := by decide +kernel
theorem test_sampleRecord_readback : ((after (.sampleRecord 0xA0 0x00 0xC8 0x98) live).line .purge).lastGood = some 200 := by
  decide +kernel
theorem test_channelTimerExpiry : ((after (.channelTimerExpiry .z2 .profile) live).zoneM .z2).measured = some 9100 := by
  decide +kernel
theorem test_holdTimerExpiry :
    let lost : State := { running with zm := { running.zm with
      zones := running.zm.zones.set .z3 ⟨.lostHold, Channel.reset, Channel.reset, 0, some 8950, .running 1⟩ } }
    (after (.holdTimerExpiry .z3) lost).rs.run = .aborting := by decide +kernel
/-- "Offset learning": profile 9000, spike 9120 give −7, −14 and, from −20, −26. -/
theorem test_zmPeriod_offset : learnOffset 9000 9120 0 = -7 ∧ learnOffset 9000 9120 (-7) = -14 ∧
    learnOffset 9000 9120 (-20) = -26 ∧ learnOffset 9000 9120 (-105) = -105 := by decide
/-- "A ramp from 800.0 °C to 900.0 °C", periods 1 and 1200. -/
theorem test_ramp : advanceSetpoint 100 1080000 960000 = 960100 ∧ advanceSetpoint 100 1080000 1079900 = 1080000 := by decide
/-- "Drive of five zones under the cap": e = 50, Ia from 76800 to 77200, Draw 426. -/
theorem test_zcPeriod_drive : ((after .zcPeriod live).zoneC .z3).ia = 77200 ∧
    ((after .zcPeriod live).zoneC .z3).draw = 426 := by decide +kernel
/-- The same example: S = 135000, grant 120, raw drive 426 of Z3. -/
def capped : State := { live with
  zc := { live.zc with
    demand := 135000, zones := live.zc.zones.set .z3 { live.zoneC .z3 with draw := 426, window := .running 377 } }
  bu := { live.bu with heldHeater := 120 } }
theorem test_applied_drive : capped.appliedDrive .z3 = 378 ∧ capped.heaterHigh .z3 = true := by decide +kernel
theorem test_heaterWindowStart : (after (.heaterWindowStart .z3) capped).heaterHigh .z3 = true := by decide +kernel
theorem test_heaterOnTimeEnd : (after (.heaterOnTimeEnd .z3) capped).heaterHigh .z3 = false := by decide +kernel

/-! ### Gas -/

theorem test_gcPeriod_accumulates : (after .gcPeriod live).gc.acc = 20 := by decide +kernel
/-- "A purge of three tube exchanges": 30 × 150 × 120. -/
theorem test_purge_target : live.purgeUnits 30 = 540000 := by decide
theorem test_deviation_threshold : deviationThreshold 120 10 = 12 := by decide
theorem test_readbackTimerExpiry : ((after (.readbackTimerExpiry .purge) live).line .purge).valid = false := by decide +kernel
theorem test_setpointRecordSend :
    (after .setpointRecordSend { live with gc := { live.gc with queue := [.carrier, .purge] } }).gc.sent = some ⟨.carrier, 0⟩ := by
  decide +kernel
theorem test_repeatTimerExpiry : (after (.repeatTimerExpiry .oxidant) live).gc.queue = [.oxidant] := by decide +kernel

/-- Oxidant flowing: the cap sealed, the boat at full-in. -/
def oxidising : State := { running with
  pins := { running.pins with sealed := true }
  bd := { running.bd with e := 14995, c := 14995 }
  gc := { running.gc with lines := running.gc.lines.set .oxidant { running.line .oxidant with commanded := 50 } } }
theorem test_oxidant_flows : oxidising.appliedFlow .oxidant = 50 := by decide +kernel
theorem test_sealDeassert : (after .sealDeassert oxidising).rs.run = .held ∧
    (after .sealDeassert oxidising).appliedFlow .oxidant = 0 ∧
    (after .sealDeassert oxidising).gc.queue = [.oxidant] := by decide +kernel
theorem test_sealAssert : (after .sealAssert (after .sealDeassert oxidising)).appliedFlow .oxidant = 50 := by decide +kernel

/-! ### Boat -/

/-- ENCA rises while ENCB is low: the inputs differ, so the count is inward. -/
theorem test_encoderCount_inward : (after (.encoderCount .a) live).bd.e = 1 := by decide +kernel
theorem test_encoderCount_lost : (after (.encoderCount .b) live).bd.e = 0 ∧
    (after (.encoderCount .b) live).bd.dir = .outward := by decide +kernel
theorem test_stepPulse : (after .stepPulse moving).bd.c = 504 := by decide +kernel
theorem test_loadclrAssert : (after .loadclrAssert live).bd.reclear = .running 2000 := by decide +kernel
theorem test_loadclrDeassert : (after .loadclrDeassert moving).motion = .gated ∧
    (after .loadclrDeassert moving).lp.events = [.boatGated] := by decide +kernel
theorem test_reclearTimerExpiry : (after .reclearTimerExpiry (after .loadclrAssert live)).bd.gate = .opened := by decide +kernel
theorem test_markCapture : (after .markCapture moving).bd.marks = [⟨500, .inward⟩] := by decide +kernel
/-- "Two marks during a push": a mark at 498 re-bases E 500 to 502 and C 503 to 505; one at 568 is BOAT-SLIP with 68. Where the stop
and the abort order meet, which comes first is free: the order is tested on a boat at rest, the stop in IDLE. -/
theorem test_bdEvaluation_rebase :
    let t := after .bdEvaluation { moving with bd := { moving.bd with marks := [⟨498, .inward⟩] } }
    t.bd.e = 502 ∧ t.bd.c = 505 := by decide +kernel
/-- Two faults, the abort first (R163): the order that waits is taken before the FLOW-DEVIATION of the period, so the run is not held
on the way, and the fault has the label that is still in force. -/
theorem test_gcPeriod_after_order :
    let s := ordered { running with gc := { running.gc with
      lines := running.gc.lines.set .carrier { running.line .carrier with lastGood := some 900, devTimer := some 9500 } } }
    let t := after .gcPeriod s
    t.rs.run = .aborting ∧ t.rs.abortOrdered = false ∧ .held ∉ t.lp.events ∧
    (t.fl.first.map fun r => (r.kind, r.label)) = some (.flowDeviation, some 7) := by decide +kernel
/-- A FAULT-CLEAR that waited in the slot overtakes an abort order: the abort begins with an empty log (R166). -/
theorem test_replyEnd_before_order :
    let s := ordered { running with
      fl := { running.fl with count := 1 }, lp := { replying.lp with slot := some (.request 0x10 []) } }
    let t := after .replyEnd s
    t.rs.run = .aborting ∧ t.fl.count = 0 ∧ t.lp.reply = some ⟨0x10, .ok, []⟩ := by decide +kernel
theorem test_bdEvaluation_slip :
    let t := after .bdEvaluation { moving with bd := { moving.bd with marks := [⟨568, .inward⟩], move := none } }
    let u := after .bdEvaluation { moving with rs := live.rs, bd := { moving.bd with marks := [⟨568, .inward⟩] } }
    t.rs.run = .aborting ∧ (t.fl.first.map (·.value)) = some (.number 68) ∧ u.bd.c = 500 ∧ u.motion = .rest := by
  decide +kernel
/-- The characters of 0xA8 (three 1s, so parity 1), of a wrong parity, and of a stop bit 0. -/
theorem test_characters : LpChar.good 0xA8 = ⟨0xA8, true, true⟩ ∧ (LpChar.mk 0xA8 false true).result = .parityError ∧
    (LpChar.mk 0xA8 false false).result = .framingError ∧
    (LpChar.good 0xA9).bits = [false, true, false, false, true, false, true, false, true, false, true] := by decide
/-- A frame on a line that is not idle is no frame (R132). -/
theorem test_frame_before_idle :
    let s := after (.announceReceived 4 body) { live with bl := { live.bl with line := .recessive 40 } }
    s.bu.view = [] ∧ s.bl.line = .recessive 0 ∧ (after (.bankFrameError (.badLength 0 16)) s).bl.rxErrors = 0 := by
  decide +kernel
/-- "A push into a hot tube": L = 400 and the droops 120, 250, 330, 420, 300 and 190. -/
theorem test_droop_table : droopRow false .full 400 120 = (.full, false) ∧ droopRow false .full 400 250 = (.half, false) ∧
    droopRow false .half 400 330 = (.quarter, false) ∧ droopRow false .quarter 400 420 = (.quarter, true) ∧
    droopRow true .quarter 400 300 = (.quarter, true) ∧ droopRow true .quarter 400 190 = (.full, false) := by decide

/-! ### Peer view and shares -/

/-- "Heater shares, then a curtailment": S2 and S3 FRESH, S4 STALE. -/
def shares : State := { running with
  cl := { running.cl with image := some { image with pMouth := 0 } }
  bu := { running.bu with
    heater := ⟨180, 420⟩, heldHeater := 420
    view := [⟨2, ⟨200, 300, 300⟩, ⟨20, 20, 20⟩, 2, .running, .l100, 0, false⟩,
      ⟨3, ⟨150, 500, 500⟩, ⟨20, 20, 20⟩, 1, .running, .l100, 0, false⟩,
      ⟨4, ⟨0, 0, 90⟩, ⟨0, 0, 0⟩, 0, .idle, .l100, 3000, true⟩] } }
theorem test_share_example : shares.computedGrant .heater = 420 := by decide +kernel
/-- The level falls to 50: 145 at once. -/
theorem test_curtailReceived : (after (.curtailReceived 1 50) shares).bu.heldHeater = 145 ∧
    (after (.curtailReceived 1 50) shares).bl.ackSlot = some ⟨.l50, 2⟩ := by decide +kernel
/-- "Purge shares for an aborting tube": 250 at level 75, 90 at level 25. -/
theorem test_purge_example : let peers := [⟨20, 180, 2⟩, ⟨20, 130, 1⟩, ⟨20, 0, 0⟩]
    normalGrant (effectiveBudget 600 .l75) ⟨20, 230, 3⟩ peers = 250 ∧
    normalGrant (effectiveBudget 600 .l25) ⟨20, 230, 3⟩ peers = 90 := by decide +kernel
theorem test_announceReceived : ((after (.announceReceived 4 body) live).bu.view.map (·.station)) = [5] := by decide +kernel
theorem test_announceReceived_content :
    (after (.announceReceived 4 { body with rank := 4 }) live).bu.contentErrors = 1 := by decide +kernel
theorem test_entryStale : ((after (.entryStale 3) shares).bu.view.map (·.stale)) = [false, true, true] := by decide +kernel
theorem test_entryRemoved : ((after (.entryRemoved 3) shares).bu.view.map (·.station)) = [2, 4] := by decide +kernel

/-! ### Bank line and curtailment -/

theorem test_bankFrameError : (after (.bankFrameError (.badLength 0 16)) live).bl.rxErrors = 1 := by decide +kernel
theorem test_otherKindFrame : (after (.otherKindFrame 7 3 []) live).bl.silence = .running 5000 ∧
    (after (.otherKindFrame 7 3 []) live).bl.rxErrors = 0 := by decide +kernel
theorem test_lineIdle : (after .lineIdle { live with bl := { live.bl with line := .recessive 96 } }).bl.line = .idle := by
  decide +kernel
theorem test_bankLineGlitch : (after .bankLineGlitch live).bl.line = .recessive 0 := by decide +kernel
theorem test_attemptStart :
    ((after .attemptStart { live with bl := { live.bl with ackSlot := some ⟨.l50, 2⟩ } }).bl.attempt.map (·.frame)) =
      some (.ack .l50 2) := by decide +kernel
theorem test_arbitrationLost : (after .arbitrationLost (sending (.curtail .l50))).bl.attempt = none ∧
    (after .arbitrationLost (sending (.curtail .l50))).bl.abandons = 7 := by decide +kernel
theorem test_attemptAbandoned_eighth : (after .attemptAbandoned (sending (.curtail .l50))).linkState = .mute := by decide +kernel
/-- The worked sequence's moment 7: the frame carried 90, the computed grant is higher, and the slot is pending again. -/
theorem test_transmitCompletion :
    let t := after .transmitCompletion { shares with
      bu := { shares.bu with heldHeater := 60 }
      bl := { shares.bl with attempt := some ⟨.announce { body with heaterHeld := 90 }, false⟩ } }
    t.bu.heldHeater = 90 ∧ t.bl.announceSlot = true := by decide +kernel
theorem test_announceTimerExpiry : (after .announceTimerExpiry live).bl.announce = .running 1000 := by decide +kernel
theorem test_listenTimerExpiry :
    let t := after .listenTimerExpiry { live with
      cl := { live.cl with startup := .joining }, bl := { live.bl with phase := .joining, listen := .running 0 } }
    t.linkState = .normal ∧ t.cl.startup = .ready := by decide +kernel
theorem test_silenceTimerExpiry : (after .silenceTimerExpiry live).linkState = .isolated := by decide +kernel
theorem test_muteTimerExpiry :
    (after .muteTimerExpiry (after .attemptAbandoned (sending (.curtail .l50)))).bl.abandons = 0 := by decide +kernel
theorem test_curtailInputChange : (after (.curtailInputChange true false) live).bu.debounce = .running 100 := by decide +kernel
theorem test_debounceTimerExpiry :
    let t := after .debounceTimerExpiry (after (.curtailInputChange true false) live)
    t.bu.level = .l50 ∧ t.bl.curtailSlot = some .l50 ∧ t.lp.events = [.curtail] := by decide +kernel

/-- The collection of the worked sequence once S2 and S3 have acknowledged, and then one that awaits S3 too. -/
def collecting (expected : List Nat) : State :=
  { live with bu := { live.bu with collection := some ⟨.l50, expected, .running 1⟩ } }
theorem test_curtailAckReceived : (after (.curtailAckReceived 2 50 1) (collecting [3, 4])).bu.collection =
    some ⟨.l50, [4], .running 1⟩ := by decide +kernel
theorem test_ackTimerExpiry : ((after .ackTimerExpiry (collecting [4])).fl.first.map (·.subject)) = some (.stations [4]) ∧
    (after .ackTimerExpiry (collecting [4])).bu.collection = none := by decide +kernel

/-! ### A step -/

theorem test_step_takes_the_front :
    step { live with pending := [.sealAssert, .sealDeassert] } = exec .sealAssert { live with pending := [.sealDeassert] } := rfl
theorem test_no_word_is_a_command : decodeTableWord 16 5 = none := rfl

/-! ### Witnesses: each statement's hypotheses are met -/

/-- A state in the middle of everything, about to drive a pulse, that meets every invariant. -/
def busy : State := { shares with
  pins := { shares.pins with loadclr := true }
  bd := moving.bd
  pending := [.stepPulse] }

theorem busy_startCoherent : busy.StartCoherent where
  quiet := by decide
  image := by decide
  station := by intro i h; cases h; decide
  reset := by decide

theorem busy_withinRanges : busy.WithinRanges := by constructor <;> decide +kernel

theorem busy_boatInRange : busy.BoatInRange where
  encoder := by decide
  commanded := by decide
  target := by intro m h; cases h; decide
  steps := by decide
  fullIn := by decide

theorem busy_viewSound : busy.ViewSound := by
  refine ⟨by decide, ?_⟩
  intro e he
  simp only [busy, shares, List.mem_cons, List.not_mem_nil, or_false] at he
  rcases he with rfl | rfl | rfl <;> constructor <;> decide

theorem busy_runCoherent : busy.RunCoherent := by constructor <;> decide

theorem busy_setpointsWithinLimit : busy.SetpointsWithinLimit where
  target := by intro z t h; cases z <;> cases h <;> decide
  setpoint := by intro z x h; cases z <;> cases h <;> decide
  steps := by intro r h; cases h
  idle := by decide

theorem busy_formKept : busy.FormKept where
  mute := by decide
  silent := by decide
  line := by decide
  order := by decide
  slot := by decide
  outbound := by decide
  events := by decide
  summary := by decide
  collection := by intro c h; cases h
  abortPurge := by decide

theorem busy_stepOpen : busy.StepOpen := by intro _ r h; cases h; decide

/-- A curtailment lowers the held heater grant in a command that leaves the run as it is. -/
theorem witness_GrantsFollowShares : ∃ t, exec (.curtailReceived 1 25) busy = .next t ∧
    t.bu.heldHeater < busy.bu.heldHeater ∧ busy.rs.done < 65535 ∧ t.rs.run = busy.rs.run ∧ t.rs.current = busy.rs.current ∧
    t.rs.queue = busy.rs.queue ∧ t.rs.done = busy.rs.done ∧ busy.bl.isolated = false ∧ busy.bl.phase = .on :=
  ⟨_, rfl, by decide +kernel⟩

/-- For StartCoherentKept, GrantsFollowShares, PowerWithinHeldGrant, BoatDriveKept, ViewSoundKept, SetpointsWithinLimitKept,
WithinRangesKept, RunCoherentKept, StepOpenKept and FormKeptKept: `busy` meets their premises and steps. -/
theorem witness_invariants_kept : busy.StartCoherent ∧ (busy.HeldWithinComputed ∧ busy.RaisePending) ∧ busy.DemandCurrent ∧
    (busy.BoatInRange ∧ busy.GateFollows ∧ busy.PulseTimerFollows) ∧ busy.ViewSound ∧ busy.SetpointsWithinLimit ∧
    busy.WithinRanges ∧ busy.RunCoherent ∧ busy.StepOpen ∧ busy.FormKept ∧
    ∃ t, step busy = .next t ∧ t.bd.c = 504 :=
  ⟨busy_startCoherent, by decide +kernel, by decide +kernel, ⟨busy_boatInRange, by decide, by decide +kernel⟩, busy_viewSound,
    busy_setpointsWithinLimit, busy_withinRanges, busy_runCoherent, busy_stepOpen, busy_formKept, _, rfl, by decide +kernel⟩

/-- A state whose clock has a command due, one with none due, and one in reset. -/
theorem witness_IdleStepRunsTheClock :
    (running.pending = [] ∧ due running = [.attemptStart]) ∧
    (loading.pending = [] ∧ due loading = [] ∧ loading.resetHeld = none) ∧
    (due (after .warmReset live) = [] ∧ (after .warmReset live).resetHeld.isSome) := by decide +kernel

theorem witness_ResetCommands : live.resetHeld = none ∧ (after .warmReset live).resetHeld.isSome := by decide +kernel

/-- An ANNOUNCE that carried more than either held grant. -/
def granting : State := { shares with
  bu := { shares.bu with heldHeater := 60 }
  bl := { shares.bl with attempt := some ⟨.announce body, false⟩ } }

theorem witness_GrantRisesOnlyAtCompletion : ∃ t, exec .transmitCompletion granting = .next t ∧
    granting.bu.heldHeater < t.bu.heldHeater ∧ granting.bu.heldPurge < t.bu.heldPurge := ⟨_, rfl, by decide +kernel⟩

theorem witness_PulsesOnlyWhileMoving : moving.GateFollows ∧
    ∃ t, exec .stepPulse moving = .next t ∧ t.bd.pulses ≠ moving.bd.pulses := ⟨by decide, _, rfl, by decide +kernel⟩

/-- A log with both records filled. -/
def logged : State :=
  reportFault .linkMute .none .absent (reportFault .flowDeviation (.line .purge) .absent live)

theorem witness_FaultRecordsStand : ∃ t, exec (.faultClear []) logged = .next t ∧
    (∃ r, logged.fl.first = some r ∧ t.fl.first ≠ some r) ∧ ∃ r, logged.fl.next = some r ∧ t.fl.next ≠ some r :=
  ⟨_, rfl, ⟨_, rfl, by decide +kernel⟩, _, rfl, by decide +kernel⟩

theorem witness_RunStateChanges :
    (∃ t, exec (.runStart []) queued = .next t ∧ queued.rs.run = .idle ∧ t.rs.run ≠ .idle) ∧
    (∃ t, exec (.runResume []) heldRun = .next t ∧ heldRun.rs.run = .held ∧ t.rs.run = .running) ∧
    (∃ t, exec (.faultClear []) (ordered heldRun) = .next t ∧ (ordered heldRun).rs.run = .held ∧ t.rs.run = .aborting) ∧
    (∃ t, exec .warmReset heldRun = .next t ∧ heldRun.rs.run = .held ∧ t.rs.run = .idle) ∧
    ∃ t, exec .abortTimeout aborting = .next t ∧ aborting.rs.run = .aborting ∧ t.rs.run = .idle :=
  ⟨⟨_, rfl, by decide +kernel⟩, ⟨_, rfl, by decide +kernel⟩, ⟨_, rfl, by decide +kernel⟩, ⟨_, rfl, by decide +kernel⟩,
    _, rfl, by decide +kernel⟩

theorem live_startCoherent : live.StartCoherent where
  quiet := by decide
  image := by decide
  station := by intro i h; cases h; decide
  reset := by decide

theorem oxidising_startCoherent : oxidising.StartCoherent where
  quiet := by decide
  image := by decide
  station := by intro i h; cases h; decide
  reset := by decide

theorem witness_FlowChangeQueues : oxidising.StartCoherent ∧ ∃ t, exec .sealDeassert oxidising = .next t ∧
    t.released = true ∧ oxidising.appliedFlow .oxidant ≠ t.appliedFlow .oxidant :=
  ⟨oxidising_startCoherent, _, rfl, by decide +kernel⟩

theorem portWait_startCoherent : portWait.StartCoherent where
  quiet := by decide
  image := by decide
  station := by intro i h; cases h
  reset := by decide

theorem loading_startCoherent : loading.StartCoherent where
  quiet := by decide
  image := by decide
  station := by intro i h; cases h
  reset := by decide

theorem queued_startCoherent : queued.StartCoherent where
  quiet := by decide
  image := by decide
  station := by intro i h; cases h; decide
  reset := by decide

theorem aborting_startCoherent : aborting.StartCoherent where
  quiet := by decide
  image := by decide
  station := by intro i h; cases h; decide
  reset := by decide

/-- The same with a grant that a curtailment takes below the demand, and with the flag set. -/
def drawing : State := { shares with
  bl := { shares.bl with attempt := none, line := .idle }
  zc := { shares.zc with demand := shares.bu.heldHeater * 1000 } }
theorem witness_PowerWithinHeldGrant :
    (∃ t, exec (.curtailReceived 1 25) drawing = .next t ∧ t.bu.heldHeater < drawing.bu.heldHeater ∧
      t.bu.heldHeater * 1000 < t.zc.demand ∧ drawing.zc.capSeen = false ∧ t.zc.capSeen = true) ∧
    ∃ t, exec .zcPeriod { shares with zc := { shares.zc with capSeen := true } } = .next t ∧ t.zc.capSeen = false :=
  ⟨⟨_, rfl, by decide +kernel⟩, _, rfl, by decide +kernel⟩

/-- A gate about to open on a move that waits for it. -/
def gated : State := { moving with bd := { moving.bd with gate := .reclearing, reclear := .running 0, pulse := none } }
theorem witness_BoatDriveKept : ∃ t, exec .reclearTimerExpiry gated = .next t ∧ gated.pulsing = false ∧ t.pulsing = true :=
  ⟨_, rfl, by decide +kernel⟩

theorem witness_EventsTellChanges :
    (∃ t, exec .stepTimeoutExpiry busy = .next t ∧ t.rs.run = .held ∧ busy.rs.run ≠ .held ∧ busy.fl.count < t.fl.count) ∧
    (∃ t, exec .dwellExpiry busy = .next t ∧ t.rs.run = .starved ∧ busy.rs.run ≠ .starved ∧ busy.rs.run ≠ .held) ∧
    (∃ t, exec .abortTimeout aborting = .next t ∧ t.rs.run = .idle ∧ aborting.rs.run ≠ .idle) ∧
    (∃ t, exec (.runStart []) queued = .next t ∧ t.rs.current ≠ queued.rs.current ∧ t.rs.current.isSome) ∧
    (∃ t, exec .loadclrDeassert busy = .next t ∧ t.motion = .gated ∧ busy.motion ≠ .gated) ∧
    (∃ t, exec (.curtailReceived 1 50) busy = .next t ∧ t.bu.level ≠ busy.bu.level) ∧
    (∃ t, exec .silenceTimerExpiry live = .next t ∧ t.linkState ≠ live.linkState ∧ live.linkState ≠ .inactive) ∧
    (∃ t, exec (.configDone []) portWait = .next t ∧ t.released = true ∧ portWait.released = false) ∧
    .held ∈ (raiseEvent .held live).lp.events ∧ busy.StartCoherent ∧ aborting.StartCoherent ∧ queued.StartCoherent ∧ live.StartCoherent ∧ portWait.StartCoherent :=
  ⟨⟨_, rfl, by decide +kernel⟩, ⟨_, rfl, by decide +kernel⟩, ⟨_, rfl, by decide +kernel⟩, ⟨_, rfl, by decide +kernel⟩,
    ⟨_, rfl, by decide +kernel⟩, ⟨_, rfl, by decide +kernel⟩, ⟨_, rfl, by decide +kernel⟩, ⟨_, rfl, by decide +kernel⟩,
    by decide, busy_startCoherent, aborting_startCoherent, queued_startCoherent, live_startCoherent, portWait_startCoherent⟩

theorem witness_ReadRequestsAnswer : live.portReady ∧ live.released = true ∧
    [EventKind.fault, .ready].Sublist EventKind.all ∧ [FaultKind.sealLost, .configDefault].Sublist FaultKind.all ∧
    EventKind.all[10]? = some .ready ∧ FaultKind.all[13]? = some .configDefault := by decide

theorem witness_RequestsTurnedAway : loading.portReady ∧ live.portReady ∧ live.rs.abortOrdered = false ∧
    (Instr.unknownKindRequest 0xFF (List.replicate 44 0)).wf = true ∧
    (loading.released = false ∧ Request.runStart ∉ [Request.statusRead, .eventRead, .faultRead, .configWrite, .configDone]) ∧
    (live.released = true ∧ Request.boatMove.fixedLength = some 4 ∧ [(0 : Byte), 0, 0].length ≠ 4) := by decide

theorem witness_InputSlotTable : live.lp.reply = none ∧
    ({ replying with lp := { replying.lp with slot := none } } : State).lp.slot = none ∧ replying.lp.reply.isSome ∧
    replying.lp.slot = some (.badCheck 9) ∧ live.lp.rx = .hunting ∧ live.resetHeld = none ∧
    (Instr.badCheckFrame 1 (List.replicate 44 0) 0).wf = true ∧ (Instr.lineError [.good 0xA8, .good 1]).wf = true ∧
    (Instr.lpGapTimeout [.good 0xA8, .good 46]).wf = true ∧
    ({ live with lp := { live.lp with rx := .skipping } } : State).lp.rx = .skipping ∧ live.rs.abortOrdered = false ∧
    replying.lp.reply = some ⟨1, .ok, []⟩ ∧ (Reply.mk 1 .ok []).bytes.length = 6 ∧ replying.rs.abortOrdered = false ∧
    (LpChar.good 0xA8).result = .good 0xA8 ∧ (LpChar.good 0xA7).result ≠ .good 0xA8 ∧
    (∀ b, (LpChar.mk 0xA8 false true).result ≠ .good b) ∧
    (({ live with lp := { live.lp with rx := .inFrame [] } } : State).lp.rx = .inFrame [] ∧
      2 ≤ (46 : Byte).toNat ∧ (46 : Byte).toNat ≤ 46 ∧ (1 : Byte).toNat < 2 ∧ 46 < (47 : Byte).toNat) ∧
    ([] : List Byte).length + 1 < (2 : Byte).toNat ∧ [(5 : Byte)].length + 1 = (2 : Byte).toNat := by decide +kernel

/-- The refusals, a body one byte past the image, and one that just fits. -/
theorem witness_ConfigWriteStages : (live.portReady ∧ live.cl.startup ≠ .portWait ∧ live.cl.startup ≠ .notConfigured) ∧
    (portWait.portReady ∧ portWait.cl.startup = .portWait ∧ portWait.cl.staging.length = 64) ∧
    64 < at1 [63, 1, 2] 0 + ([(63 : Byte), 1, 2].length - 1) ∧ at1 [63, 1] 0 + ([(63 : Byte), 1].length - 1) ≤ 64 := by
  decide +kernel

theorem witness_StagingValidated : loading.StartCoherent ∧ portWait.StartCoherent ∧ live.StartCoherent ∧
    (loading.cl.startup = .loading ∧ loading.resetHeld = none ∧ loading.cl.cfgsrc = .memory ∧ imageBytes.length = 64 ∧
      byteAt imageBytes 0 = 0xC3 ∧ byteSum imageBytes = 0) ∧
    imageFault (List.replicate 64 0) = some .signature ∧ imageFault (imageBytes.set 1 9) = some .sum ∧
    (portWait.portReady ∧ portWait.cl.startup = .portWait ∧ imageFault portWait.cl.staging = none) ∧
    (live.portReady ∧ live.cl.startup = .ready) ∧
    (let smdi := fun half => (imageBytes.flatMap bitsHigh).getD (half / 2 - 16) true
     memoryRead smdi = imageBytes) :=
  ⟨loading_startCoherent, portWait_startCoherent, live_startCoherent, by decide +kernel, by decide +kernel, by decide +kernel,
    by decide +kernel, by decide, by decide +kernel⟩

theorem witness_ReleaseBegins : portWait.StartCoherent ∧ portWait.released = false := ⟨portWait_startCoherent, by decide⟩

/-- A valid image without Z3 in its mask is clamped; with every field in range it is not. -/
theorem witness_ImageWithinRanges : imageClamped imageBytes 0 ⟨.low, false⟩ = false ∧
    imageClamped (imageBytes.set 9 0x01) 0 ⟨.low, false⟩ = true := by decide +kernel

/-- A record with the condition PURGE-DONE and no gas part; a queue of 32 and one of 31. -/
theorem witness_StepAppendChecks :
    (live.portReady ∧ loading.released = false ∧ live.released = true ∧ aborting.rs.run = .aborting) ∧
    readStep [0, 7, 1, 0, 0, 0, 0, 0] = none ∧
    ((readStep [0, 7, 0, 4, 0, 0, 0, 0]).map fun r => (r.conditions.purgeDone, r.gas)) = some (true, none) ∧
    (readStep [0, 7, 0, 8, 0, 5, 0, 60]).isSome ∧
    32 ≤ (inRun .held (some .starved) none (List.replicate 32 dwellStep) live).rs.queue.length ∧
    (inRun .held (some .starved) none (List.replicate 31 dwellStep) live).rs.queue.length < 32 ∧
    (starved.rs.run = .starved ∧ starved.rs.queue = [] ∧ starved.portReady) := by decide +kernel

/-- A record with every part, each field at the end of its width. -/
def fullRecord : RawStep := ⟨65535, some ⟨-32768, ⟨32767, -501, -500, 500, 501⟩, 255, 65535⟩,
  some ⟨⟨301, 200, 65535⟩, 201⟩, some ⟨15001, 9, 1001⟩, ⟨true, true, true, true⟩, 65535, 65535, true⟩

theorem witness_StoredRecordClamps : fullRecord.thermal.isSome ∧ (storeStep image fullRecord).thermal.isSome ∧
    (storeStep image fullRecord).gas = some ⟨⟨300, 200, 150⟩, 200⟩ ∧
    (storeStep image fullRecord).boat = some ⟨15000, 10, 1000⟩ ∧ image.used.get .z5 = true := by decide +kernel

theorem witness_StepRecordRoundTrip : fullRecord.fits = true ∧ (0xF8 : Byte) &&& 0x07 = 0 ∧ (0x70 : Byte) &&& 0x8F = 0 ∧
    8 ≤ [(0 : Byte), 7, 0, 8, 0, 5, 0, 60].length := by decide +kernel

theorem witness_RunStartChecks : (loading.portReady ∧ loading.released = false) ∧
    (running.portReady ∧ running.released = true ∧ running.rs.run ≠ .idle) ∧
    (logged.portReady ∧ logged.rs.run = .idle ∧ logged.fl.pending = true) ∧
    (live.rs.run = .idle ∧ live.fl.pending = false ∧ live.rs.queue = []) ∧
    (queued.portReady ∧ queued.released = true ∧ queued.rs.run = .idle ∧ queued.fl.pending = false ∧
      queued.rs.queue = [dwellStep]) := by decide +kernel

/-- A target held already, and one not. -/
theorem witness_StepStartHandsOut : pushStep.boat = some ⟨15000, 300, 400⟩ ∧ pushStep.boat.isSome ∧
    (moving.bd.c ≠ 15000 ∧ oxidising.bd.c = 14995 ∧ oxidising.followingError.natAbs ≤ 5) := by decide +kernel

/-- Done with LAST set, with an empty queue, with a record queued; not done. -/
theorem witness_CompletionEvaluated : live.rs.run ≠ .running ∧
    (running.rs.run = .running ∧ running.rs.current = some dwellStep ∧ running.othersHold dwellStep.conditions = true ∧
      dwellStep.conditions.dwell = true ∧ running.rs.dwell.holds = false) ∧
    (let s := inRun .running none (some pushStep) [dwellStep] live
     s.othersHold pushStep.conditions = true ∧ pushStep.conditions.dwell = false ∧ pushStep.last = true) ∧
    (let s := inRun .running none (some { pushStep with last := false }) [dwellStep] live
     s.rs.run = .running ∧ s.othersHold pushStep.conditions = true ∧ s.rs.queue = [dwellStep]) := by decide +kernel

/-- Resumed, the boat pulses a full interval later (R98). -/
theorem test_resume_restarts_pulses :
    (after (.runResume []) { heldRun with pins := moving.pins, bd := { moving.bd with pulse := none } }).bd.pulse = some 0 := by
  decide +kernel

theorem witness_HoldResumeClear : heldRun.rs.abortOrdered = false ∧ heldStarved.rs.abortOrdered = false ∧ (running.portReady ∧ running.released = true ∧ running.rs.run = .running) ∧
    starved.rs.run = .starved ∧ aborting.rs.run = .aborting ∧
    (heldRun.portReady ∧ heldRun.released = true ∧ heldRun.rs.run = .held ∧ heldRun.rs.prior = some .running ∧
      heldRun.rs.current = some dwellStep) ∧
    (heldStarved.rs.prior = some .starved ∧ heldStarved.rs.queue = [dwellStep]) ∧
    (after (.queueClear []) heldStarved).rs.queue = [] := by decide +kernel

theorem witness_AbortAndIdleEntries : (running.portReady ∧ running.released = true ∧ running.rs.run ≠ .idle ∧
    running.rs.run ≠ .aborting) ∧ live.rs.run = .idle := by decide

theorem witness_BoatMoveTaken : live.portReady ∧ live.released = true ∧ live.rs.run = .idle ∧ running.rs.run ≠ .idle ∧
    [(0 : Byte), 5, 0, 10].length = 4 := by decide

theorem witness_FaultTaken : faultClass .sealLost .none = .hold ∧ running.rs.run = .running ∧
    faultClass .zoneLost (.zone .z3) = .abort ∧ heldRun.rs.run = .held ∧ faultClass .linkMute .none = .note ∧
    heldRun.orderMeets = false ∧ ({ heldRun with pending := [.faultClear []] } : State).orderMeets = true ∧
    ({ heldRun with pending := [.replyEnd] } : State).orderMeets = true ∧ (ordered live).rs.run = .idle ∧
    (ordered heldRun).rs.abortOrdered = true ∧ meetsOrder .dwellExpiry = true ∧ meetsOrder (.runResume []) = true := by decide

theorem witness_FaultClearReleases : (aborting.portReady ∧ aborting.released = true ∧ aborting.rs.run = .aborting) ∧
    (logged.portReady ∧ logged.released = true ∧ logged.rs.run = .idle) ∧
    (running.portReady ∧ running.released = true ∧ running.rs.run ≠ .aborting ∧ running.rs.abortOrdered = false) ∧
    ((ordered starved).portReady ∧ (ordered starved).released = true ∧ (ordered starved).rs.run = .starved ∧
      (ordered starved).rs.abortOrdered = true) := by decide +kernel

theorem witness_RunTimersExpire : (running.rs.run = .running ∧ running.rs.current = some dwellStep ∧
      dwellStep.conditions.dwell = true ∧ running.rs.dwell.phase = .counting ∧ running.rs.dwell.holds = false ∧
      running.rs.stepTimer = .running 1 ∧ running.rs.abortOrdered = false) ∧
    (aborting.rs.run = .aborting ∧ aborting.rs.abortTimer = .running 1) ∧ live.rs.run = .idle := by decide

/-- The last channel of each kind, the first unused one, an unknown status, the ends of the value ranges, and a zone in each state
that the clauses name. -/
theorem witness_SampleTaken : (live.released = true ∧ live.zm.rx = none) ∧ loading.released = false ∧
    ([1, 2] : List Byte).length < 3 ∧ ((1 : Byte) + 2 + 3 + 0xFA = 0 ∧ (1 : Byte) + 2 + 3 + 0xFB ≠ 0) ∧
    (∀ x ∈ [(1 : Byte), 2], x ≠ 0xE5) ∧
    ((0x90 : Byte) + 0 + 0 + 0x71 ≠ 0 ∧ (0x90 : Byte) + 0 + 0 + 0x70 = 0) ∧
    sampleStatus 0x93 = none ∧ sampleStatus 0x92 = some .range ∧
    sampleChannel 0xD0 = 13 ∧ sampleChannel 0xC0 = lineChannel .oxidant ∧
    sampleChannel 0x90 = Zone.index .z5 + 5 ∧ sampleChannel 0x00 = Zone.index .z1 ∧
    (sampleValue 0x3E 0x80 = 16000 ∧ sampleValue 0x3E 0x81 = 16001 ∧ sampleValue 0xFE 0x0C = -500) ∧
    (sampleValue 0x30 0xD4 = live.image.zoneLimit ∧ live.image.zoneLimit < sampleValue 0x30 0xD5) ∧
    live.used .z5 = true ∧ (live.zoneM .z5).state = .normal ∧
    (let s := after (.channelTimerExpiry .z5 .profile) live
     ((s.zoneM .z5).channel .profile).valid = false ∧ (s.zoneM .z5).state = .degraded) ∧
    (let s := after (.channelTimerExpiry .z5 .spike) (after (.channelTimerExpiry .z5 .profile) live)
     ((s.zoneM .z5).channel .profile).valid = false ∧ (s.zoneM .z5).state = .lostHold) ∧
    (after (.serialMemoryReadEnd imageBytes) loading).used .z2 = false := by decide +kernel

theorem witness_ZoneTimersExpire :
    (let m : ZoneMeasurement := ⟨.overtemp, Channel.reset, channel 1, 2, none, .stopped⟩
     m.state = .overtemp ∧ m.profile.valid = false ∧ m.spike.valid = true) ∧
    (let m : ZoneMeasurement := ⟨.overtemp, channel 1, Channel.reset, 2, none, .stopped⟩
     m.profile.valid = true ∧ m.spike.valid = false) ∧ ((live.zoneM .z2).channel .profile).timer = .running 2000 ∧ live.used .z2 = true ∧
    (live.zoneM .z2).state = .normal ∧ (live.zoneM .z2).spike.valid = true ∧ (live.zoneM .z2).profile.lastGood = some 8950 ∧
    (let s := after (.channelTimerExpiry .z2 .profile) live
     (s.zoneM .z2).state = .degraded ∧ ((s.zoneM .z2).channel .profile).valid = false ∧
     ((s.zoneM .z2).channel .spike).timer = .running 2000) ∧
    (let s := after (.channelTimerExpiry .z2 .spike) (after (.channelTimerExpiry .z2 .profile) live)
     (s.zoneM .z2).state = .lostHold ∧ (s.zoneM .z2).holdTimer = .running 10000) := by decide +kernel

theorem witness_OffsetLearns : live.released = true ∧ live.used .z4 = true ∧ (live.zoneM .z4).profile.valid = true ∧
    (live.zoneM .z4).spike.valid = true ∧ (live.zoneM .z4).profile.lastGood = some 8950 ∧
    (live.zoneM .z4).spike.lastGood = some 9100 ∧
    ((after (.channelTimerExpiry .z4 .spike) live).zoneM .z4).spike.valid = false := by decide +kernel

/-- The setpoint at its target, held, and lagging by 51 with band 50 as in "a ramp that waits for its zones". -/
def lagging : State := { running with zc := { running.zc with
  band := some 50
  zones := running.zc.zones.set .z1 { running.zoneC .z1 with target := some 12000, spi := some 1080120 } } }
theorem witness_SetpointsAdvance : live.released = true ∧ live.rs.abortOrdered = false ∧ heldRun.rs.run = .held ∧
    (lagging.released = true ∧ lagging.rs.run = .running ∧ (lagging.zoneM .z1).state = .normal ∧
      (50 : Int) < ((8950 : Int) - (1080120 / 120 : Nat)).natAbs) ∧
    (live.rs.run ≠ .held ∧ (live.zoneC .z1).target = some 9000 ∧ live.zc.rate = some 100 ∧
      (live.zoneC .z1).spi = some 1080000) := by decide +kernel

theorem witness_DriveAndDemand : live.released = true ∧ live.used .z1 = true ∧
    ((zcStages live).zoneC .z1).spi = some 1080000 ∧ (live.zoneM .z1).state = .normal ∧
    (live.zoneM .z1).measured = some 8950 ∧
    (live.zoneC .z1).draw = 0 ∧ live.zc.capSeen = false := by decide +kernel

theorem witness_HeaterOutputs : (live.released = true ∧ live.zc.demand ≤ live.bu.heldHeater * 1000) ∧
    (capped.used .z3 = true ∧ capped.bu.heldHeater * 1000 < capped.zc.demand) ∧ loading.released = false ∧
    ((capped.zoneC .z3).window = .running 377 ∧ 377 < capped.appliedDrive .z3 ∧ capped.appliedDrive .z3 < 1000) ∧
    ((live.zoneC .z1).window = .running 0 ∧ (loading.zoneC .z1).window = .off) := by decide +kernel

theorem witness_GasPeriod : live.released = true ∧ (ordered running).rs.abortOrdered = true ∧
    (aborting.released = true ∧ aborting.rs.run = .aborting ∧ aborting.gc.abortPurge = true) ∧
    (let s : State := { aborting with gc := { aborting.gc with acc := 540000 } }
     s.image.abortPurgeRequirement * s.image.tubeVolume * 120 ≤ s.gc.acc) ∧ deviationTimer true (some 9500) = some 10000 ∧
    (live.line .purge).latch = false ∧ deviationTimer true (some 9000) ≠ some 10000 := by decide

theorem witness_FlowsApplied : oxidising.released = true ∧ loading.released = false := by decide

theorem witness_GasLineEvents : (live.line .purge).timer = .running 2000 ∧ (live.line .purge).repeatTimer = .running 1000 ∧
    live.gc.queue = [] ∧ (after (.repeatTimerExpiry .oxidant) live).gc.queue = [.oxidant] ∧ (65535 < 65536 : Prop) ∧
    live.gc.sent = none ∧
    (after .setpointRecordSend (after (.repeatTimerExpiry .purge) live)).gc.sent = some ⟨.purge, 0⟩ := by
  decide +kernel

theorem witness_SealEvents : (oxidising.pins.sealed = true ∧ oxidising.released = true ∧ oxidising.rs.run = .running ∧
    0 < (oxidising.line .oxidant).commanded) ∧ live.pins.sealed = false ∧ (live.line .oxidant).commanded = 0 := by decide

/-- BSTEP is low after a reset and high at the start of a pulse (R91, R105). -/
theorem test_bstep : (after .warmReset moving).bstepLevel 0 = false ∧ (after .stepPulse moving).bstepLevel 0 = true := by
  refine ⟨by decide +kernel, ?_⟩
  simp only [State.bstepLevel, stepPulseUs, Nat.zero_lt_succ, decide_true, Bool.and_true]
  decide +kernel

theorem witness_BoatLines : live.bd.pulses = 0 ∧ 0 < (after .stepPulse moving).bd.pulses ∧ live.released = true ∧ loading.released = false ∧
    (moving.motion = .moving ∧ moving.bd.move = some ⟨12000, 300, 0⟩ ∧ moving.bd.c ≠ 12000) ∧ live.pulsing = false ∧
    live.bd.gate = .closed ∧ moving.bd.gate ≠ .closed ∧
    ((after .loadclrAssert live).bd.gate = .reclearing ∧ (after .loadclrAssert live).bd.reclear = .running 2000) ∧
    live.bd.marks.length < 4 ∧
    4 ≤ ({ live with bd := { live.bd with marks := List.replicate 4 ⟨1, .inward⟩ } } : State).bd.marks.length := by
  decide +kernel

/-- Marks at the slip limit of 50 and one past it; following errors at the stall limit and past it; each row of the droop table at
its upper end; an arrival at the following error 5 and a miss at 6. -/
theorem witness_BdEvaluated : live.released = true ∧ loading.released = false ∧ heldRun.rs.run = .held ∧
    (moving.bd.gate = .opened ∧ moving.bd.droopWait = false ∧ moving.motion = .moving) ∧
    (({ moving with bd := { moving.bd with droopWait := true } } : State).motion = .droopWait ∧
      ({ moving with bd := { moving.bd with gate := .closed } } : State).bd.gate ≠ .opened) ∧
    (live.zoneDroop .z1 = some 50 ∧ live.zoneDroop .z2 = some 50 ∧ loading.zoneDroop .z1 = none) ∧
    live.bd.move = none ∧ live.rs.run = .idle ∧ moving.rs.run = .running ∧ moving.bd.referenced = true ∧
    ((550 : Int) - moving.image.pRef).natAbs ≤ 50 ∧ 50 < ((551 : Int) - moving.image.pRef).natAbs ∧
    (moving.bd.move.isSome ∧ moving.rs.run ≠ .held ∧ moving.followingError.natAbs ≤ moving.image.stallLimit) ∧
    (let s : State := { moving with bd := { moving.bd with c := 551 } }
     s.image.stallLimit < s.followingError.natAbs) ∧
    (let s : State := { moving with bd := { moving.bd with c := 12000, e := 11995 } }
     s.bd.c = 12000 ∧ s.followingError.natAbs ≤ 5) ∧
    (let s : State := { moving with bd := { moving.bd with c := 12000, e := 11994 } }
     5 < s.followingError.natAbs) ∧
    (200 : Int) ≤ (400 / 2 : Nat) ∧ ((400 / 2 : Nat) < (201 : Int) ∧ (300 : Int) ≤ (3 * 400 / 4 : Nat)) ∧
    ((3 * 400 / 4 : Nat) < (301 : Int) ∧ (400 : Int) ≤ 400) ∧ ¬ moving.bd.move.any (·.speed < 10) ∧
    (let s : State := { moving with bd := { moving.bd with droopWait := true, pulse := none } }
     s.pulsing = false ∧ (droopStage s).pulsing = true) ∧
    (let s : State := { moving with bd := { moving.bd with c := 12000, pulse := none, marks := [⟨501, .inward⟩] } }
     s.pulsing = false ∧ (markStage s).pulsing = true) := by decide +kernel

theorem witness_AnnounceTaken : loading.bl.phase = .inactive ∧
    (live.bl.phase ≠ .inactive ∧ live.bl.line = .idle ∧ (0 : StationCode).toNat + 1 = live.image.station) ∧
    (7 : StationCode).toNat + 1 ≠ live.image.station ∧
    (readAnnounce 8 { body with heaterHeld := 4000, purgeHeld := 2400 }).isSome ∧
    readAnnounce 8 { body with heaterHeld := 4001 } = none ∧
    (after .silenceTimerExpiry live).bl.isolated = true ∧
    shares.bu.view.Pairwise (·.station < ·.station) := by decide +kernel

theorem witness_CurtailTaken : loading.bl.phase = .inactive ∧
    (live.bl.phase ≠ .inactive ∧ live.bl.line = .idle ∧ (0 : StationCode).toNat + 1 = live.image.station ∧
      (7 : StationCode).toNat + 1 ≠ live.image.station) ∧
    readLevel 26 = none ∧ readLevel 25 = some .l25 ∧ Level.l25 ≠ live.bu.level ∧
    ((collecting [3, 4]).bu.collection = some ⟨.l50, [3, 4], .running 1⟩ ∧ (1 : Byte).toNat = live.image.station) ∧
    (live.released = true ∧ live.image.curtailSource = true ∧ inputLevel true false ≠ live.inputLevel) ∧
    (after (.curtailInputChange true false) live).bu.debounce = .running 100 ∧ live.bu.debounce = .stopped ∧
    live.bu.collection = none := by decide +kernel

/-- A line idle, one in which BL reads on after a lost arbitration, and one on which nothing is a frame. -/
theorem witness_FramesChecked : live.bl.phase ≠ .inactive ∧ live.bl.line = .idle ∧ loading.bl.phase = .inactive ∧
    (let s := after .arbitrationLost (sending (.curtail .l50))
     s.bl.line = .busy ∧ s.bl.attempt = none) ∧
    (let s := after (.bankFrameError (.badLength 0 16)) live
     s.bl.phase ≠ .inactive ∧ s.bl.line = .recessive 0) ∧
    (sending (.curtail .l50)).bl.attempt = some ⟨.curtail .l50, false⟩ ∧ frameDiscarded (.earlyEnd []) = true ∧
    (0 : BitVec 3) ∉ [1#3, 2#3, 4#3] ∧ (0 : StationCode).toNat + 1 = live.image.station ∧
    (1 : StationCode).toNat + 1 ≠ live.image.station ∧ (after .silenceTimerExpiry live).bl.isolated = true ∧
    live.bl.attempt = none ∧ (sending (.curtail .l50)).bl.attempt.isSome ∧
    frameDiscarded (.complete 0x27 1 [50] (crc16 [0x27, 1, 50])) = false := by decide +kernel

theorem witness_AttemptsMade : (live.bl.phase = .on ∧ live.bl.mute = false ∧ live.bl.attempt = none ∧ live.bl.line = .idle ∧
      live.bl.curtailSlot = none ∧ live.bl.ackSlot = none ∧ live.bl.announceSlot = true) ∧
    ((sending (.curtail .l50)).bl.attempt.isSome ∧ (sending (.curtail .l50)).bl.abandons = 7) ∧
    granting.bl.attempt = some ⟨.announce body, false⟩ ∧
    ({ live with bl := { live.bl with attempt := some ⟨.ack .l50 2, true⟩ } } : State).bl.attempt = some ⟨.ack .l50 2, true⟩ ∧
    (let s := sending (.curtail .l50)
     -- header 00100011: a 0 lost at the SOF and in cell 1, a 1 overridden in cells 3, 8 and, after the header, 16
     let sent := s.cellsInFlight.map Cell.asSent
     let differsAt := fun i => s.attemptEnd (sent.take i ++ [!sent.getD i false])
     sent.length = 41 ∧ differsAt 0 = some .attemptAbandoned ∧ differsAt 1 = some .attemptAbandoned ∧
     differsAt 3 = some .arbitrationLost ∧ differsAt 8 = some .arbitrationLost ∧ differsAt 16 = some .attemptAbandoned ∧
     differsAt 40 = some .attemptAbandoned ∧ s.attemptEnd (sent.take 40) = none) := by decide +kernel

theorem witness_LinkTimersExpire : (live.bl.phase = .on ∧ loading.bl.phase = .inactive) ∧ live.bl.announce = .running 1000 ∧ loading.bl.announce = .stopped ∧
    (let s := after (.configDone []) portWait
     s.bl.phase = .joining ∧ s.bl.listen = .running 2000) ∧
    (live.bl.phase = .on ∧ live.bl.silence = .running 5000 ∧ 1 < live.image.bankSize) ∧
    ({ live with cl := { live.cl with image := some { image with bankSize := 1 } } } : State).image.bankSize ≤ 1 ∧
    (let s := after .attemptAbandoned (sending (.curtail .l50))
     s.bl.mute = true ∧ s.bl.muteTimer = .running 5000) ∧ live.bl.mute = false := by decide +kernel

/-- The floors of the example as they are, with the budget 1000; the same with a budget that they just fill, and one that is short by
one of leaving a remainder of 1; a budget of 0, and ISOLATED. -/
def budgeted (n : Nat) : State := { shares with cl := { shares.cl with image := some { shares.image with heaterBudget := n } } }
theorem witness_OwnShare : shares.released = true ∧ loading.released = false ∧ shares.bl.isolated = false ∧
    (shares.ownDemand .heater).floor ≤ (shares.ownDemand .heater).want ∧
    (shares.ownDemand .heater).floor + ((shares.peersCounted .heater).map (·.floor)).sum = 620 ∧
    shares.beff .heater = 1000 ∧ loading.beff .heater = 0 ∧
    ((budgeted 620).beff .heater = 620 ∧ (budgeted 620).computedGrant .heater = 180 ∧ (budgeted 621).beff .heater = 621 ∧
      (budgeted 310).computedGrant .heater = 90) ∧
    (after .silenceTimerExpiry live).bl.isolated = true := by decide +kernel

theorem witness_StackSharesAddUp : (⟨20, 230, 3⟩ : Counted).rank ≤ 3 := by decide

end Sys2Proof.Tests
end

section
/-!
PROOF. STEP-APPEND (R7, R8): the length its presence flags ask for, what its owner decides in each case of the checks, and what the
command then does. A request that LP turns away before the release, and one that its owner refuses, are said for every request.
-/
namespace Sys2Proof.Machine

/-! ### Requests turned away -/

/-- LP turns away a request that is not served early before the release (R175). -/
theorem serveRequest_unreleased (r : Request) (body : List Byte) (s : State) (h : s.released = false) (he : r.early = false) :
    serveRequest r.kind body s = answer .notConfigured s := by
  simp [serveRequest, h, he]

/-- Before the release a request that is not served early is answered NOT-CONFIGURED and does nothing else (R175). -/
theorem exec_command_unreleased (r : Request) (body : List Byte) (s : State) (h : s.portReady)
    (ho : r = .faultClear ∨ r = .runResume → s.rs.abortOrdered = false) (hb : body.length ≤ 44)
    (hr : s.released = false) (he : r.early = false) :
    exec (r.command body) s = .next (s.answered ⟨r.kind, .notConfigured, []⟩) := by
  rw [exec_command_ready r body s h ho hb, serveEntry, serveRequest_unreleased r body s.heard hr he]; rfl

/-! ### The record body and the queue -/

/-- A body is read exactly where its length is what its presence flags ask for (R7, R196). -/
theorem readStep_eq_none_iff (body : List Byte) :
    readStep body = none ↔ body.length ≠ completionOffset (byteAt body 2) + 5 := by
  simp only [readStep]
  split <;> simp_all

/-- Outside STARVED a record joins the tail of the queue (R8). -/
theorem appendRecord_of_ne_starved (r : StepRecord) (s : State) (h : s.rs.run ≠ .starved) :
    appendRecord r s = { s with rs.queue := s.rs.queue ++ [r] } := by
  simp [appendRecord, h]

/-- The head of the queue leaves it for a step start (R12). -/
theorem startHead_of_queue {r : StepRecord} {rest : List StepRecord} {s : State} (h : s.rs.queue = r :: rest) :
    startHead s = stepStart r { s with rs.queue := rest } := by
  simp only [startHead, h]

/-- In STARVED, where the queue is empty, a record leaves the queue at once for a step start (R8). -/
theorem appendRecord_of_starved (r : StepRecord) (s : State) (h : s.rs.run = .starved) (hq : s.rs.queue = []) :
    appendRecord r s = stepStart r s :=
  calc appendRecord r s
    _ = startHead { s with rs.queue := s.rs.queue ++ [r] } := if_pos h
    _ = stepStart r { s with rs.queue := [] } := startHead_of_queue (by simp [hq])
    _ = stepStart r s := by rw [← hq]

/-! ### The owner's checks, in their order (R7) -/

theorem serveStepAppend_aborting (body : List Byte) (s : State) (h : s.rs.run = .aborting) :
    serveStepAppend body s = answer .state s := by
  simp [serveStepAppend, h]

theorem serveStepAppend_unreadable (body : List Byte) (s : State) (h : s.rs.run ≠ .aborting) (hread : readStep body = none) :
    serveStepAppend body s = answer .badFormat s := by
  simp [serveStepAppend, h, hread]

section
variable {body : List Byte} {raw : RawStep} (s : State) (h : s.rs.run ≠ .aborting) (hread : readStep body = some raw)
include h hread

theorem serveStepAppend_purgeDone_without_gas (hgas : raw.conditions.purgeDone = true ∧ raw.gas = none) :
    serveStepAppend body s = answer .badFormat s := by
  simp [serveStepAppend, h, hread, hgas]

theorem serveStepAppend_queueFull (hgas : ¬ (raw.conditions.purgeDone = true ∧ raw.gas = none))
    (hfull : 32 ≤ s.rs.queue.length) : serveStepAppend body s = answer .queueFull s := by
  simp [serveStepAppend, h, hread, hgas, Config.queueCapacity, hfull]

theorem serveStepAppend_accepted (hgas : ¬ (raw.conditions.purgeDone = true ∧ raw.gas = none))
    (hroom : s.rs.queue.length < 32) :
    serveStepAppend body s = accepted (stepClamped s.image raw) (appendRecord (storeStep s.image raw) s) := by
  simp [serveStepAppend, h, hread, hgas, Config.queueCapacity, Nat.not_le.2 hroom]

end

/-! ### The command -/

section
variable {s : State} {body : List Byte} (hp : s.portReady) (hb : body.length ≤ 44)
include hp hb

theorem exec_stepAppend_unreleased (hr : s.released = false) :
    exec (.stepAppend body) s = .next (s.answered ⟨0x20, .notConfigured, []⟩) :=
  exec_command_unreleased .stepAppend body s hp (by simp) hb hr rfl

/-- From the release on, STEP-APPEND does and answers what its owner decides at the end of the frame (R174, R175). -/
theorem exec_stepAppend_of_serve (hr : s.released = true) {code : ReplyCode} {t : State}
    (hserve : serveStepAppend body s.heard = answer code t) :
    exec (.stepAppend body) s = .next (sendReply ⟨0x20, code, []⟩ t) := by
  have howner : serveOwner .stepAppend body s.heard = answer code t := hserve
  have hexec := exec_command_owner .stepAppend body s hp (by simp) hb hr (.inl rfl)
  rwa [howner] at hexec

end

/-- Settles O30: each case of the checks is one equation of `serveStepAppend`, and the command answers what it decides. -/
theorem stepAppendChecks : Obligations.StepAppendChecks := by
  refine ⟨readStep_eq_none_iff, fun s body hp hb => ⟨exec_stepAppend_unreleased hp hb, fun hr => ?_⟩⟩
  have hexec {code : ReplyCode} {t : State} := exec_stepAppend_of_serve hp hb hr (code := code) (t := t)
  refine ⟨fun habort => hexec (serveStepAppend_aborting body s.heard habort), fun hrun => ?_⟩
  refine ⟨fun hread => hexec (serveStepAppend_unreadable body s.heard hrun hread), fun raw hread => ?_⟩
  refine ⟨fun hgas => hexec (serveStepAppend_purgeDone_without_gas s.heard hrun hread hgas), fun hgas => ?_⟩
  refine ⟨fun hfull => hexec (serveStepAppend_queueFull s.heard hrun hread hgas hfull), fun hroom => ?_⟩
  have haccept := hexec (serveStepAppend_accepted s.heard hrun hread hgas hroom)
  constructor
  · intro hstarved
    rw [haccept, appendRecord_of_ne_starved _ s.heard hstarved]; rfl
  · intro hstarved hqueue
    rw [haccept, appendRecord_of_starved _ s.heard hstarved hqueue]; rfl

end Sys2Proof.Machine
end

section
/-!
PROOF. CONFIG-WRITE (R185): the staging image byte by byte after a write, what its owner decides in each case, and what the command
then does. That a request served early reaches its owner whatever the start-up state is said for every request.
-/
namespace Sys2Proof.Machine

/-! ### Requests served early -/

/-- A request of the right length that is served early reaches its owner in every start-up state (R175). -/
theorem serveRequest_early (r : Request) (body : List Byte) (s : State) (he : r.early = true)
    (hl : r.fixedLength = none ∨ r.fixedLength = some body.length) :
    serveRequest r.kind body s = serveOwner r body s := by
  rcases hl with hl | hl <;> simp [serveRequest, he, hl]

/-- A request of the right length that is served early and meets a ready port: what its owner decides, and the reply (R174, R175). -/
theorem exec_command_early (r : Request) (body : List Byte) (s : State) (h : s.portReady)
    (ho : r = .faultClear ∨ r = .runResume → s.rs.abortOrdered = false) (hb : body.length ≤ 44) (he : r.early = true)
    (hl : r.fixedLength = none ∨ r.fixedLength = some body.length) :
    exec (r.command body) s = .next (sendReply
      ⟨r.kind, (serveOwner r body s.heard).code, (serveOwner r body s.heard).body⟩ (serveOwner r body s.heard).state) := by
  rw [exec_command_ready r body s h ho hb, serveEntry, serveRequest_early r body s.heard he hl]

/-! ### Bytes of the staging image after a write -/

section
variable {offset : Nat} {data staging : List Byte}

/-- A write that fits keeps the size of the image. -/
theorem length_writeStaging (hfit : offset + data.length ≤ staging.length) :
    (writeStaging offset data staging).length = staging.length := by
  simp [writeStaging]; omega

/-- Below the offset a write changes no byte. -/
theorem byteAt_writeStaging_below (hfit : offset ≤ staging.length) {i : Nat} (hi : i < offset) :
    byteAt (writeStaging offset data staging) i = byteAt staging i := by
  simp only [byteAt, writeStaging, List.append_assoc]
  rw [List.getD_append _ _ _ _ (by simp; omega)]
  simp [List.getD_eq_getElem?_getD, List.getElem?_take_of_lt hi]

/-- From the offset on stand the data bytes, in order. -/
theorem byteAt_writeStaging_data (hfit : offset ≤ staging.length) {i : Nat} (hi : i < data.length) :
    byteAt (writeStaging offset data staging) (offset + i) = byteAt data i := by
  have htake : (staging.take offset).length = offset := List.length_take_of_le hfit
  simp only [byteAt, writeStaging, List.append_assoc]
  rw [List.getD_append_right _ _ _ _ (by omega), List.getD_append _ _ _ _ (by omega), htake, Nat.add_sub_cancel_left]

/-- Past the data a write changes no byte. -/
theorem byteAt_writeStaging_above (hfit : offset ≤ staging.length) {i : Nat} (hi : offset + data.length ≤ i) :
    byteAt (writeStaging offset data staging) i = byteAt staging i := by
  have hlen : (staging.take offset ++ data).length = offset + data.length := by
    rw [List.length_append, List.length_take_of_le hfit]
  simp only [byteAt, writeStaging]
  rw [List.getD_append_right _ _ _ _ (by omega), hlen]
  simp [List.getD_eq_getElem?_getD, List.getElem?_drop, Nat.add_sub_cancel' hi]

end

/-- The first byte of a list off, each index is one less. -/
theorem byteAt_tail (bs : List Byte) (i : Nat) : byteAt bs.tail i = byteAt bs (i + 1) := by
  simp [byteAt, List.getD_eq_getElem?_getD]

/-! ### The owner's checks (R185) -/

/-- Configuration is taken in PORT-WAIT and in NOT-CONFIGURED. -/
theorem configurable_iff (s : State) :
    s.configurable = true ↔ s.cl.startup = .portWait ∨ s.cl.startup = .notConfigured := decide_eq_true_iff

theorem serveConfigWrite_not_configurable (body : List Byte) (s : State) (h : ¬ s.configurable = true) :
    serveConfigWrite body s = answer .state s := by
  simp [serveConfigWrite, h]

section
variable {body : List Byte} (s : State) (h : s.configurable = true)
include h

theorem serveConfigWrite_unfit (hbad : body.length < 2 ∨ 64 < at1 body 0 + (body.length - 1)) :
    serveConfigWrite body s = answer .badFormat s := by
  rw [serveConfigWrite, if_neg (by simp [h]), if_pos (by rwa [List.length_tail])]

theorem serveConfigWrite_accepted (h2 : 2 ≤ body.length) (hfit : at1 body 0 + (body.length - 1) ≤ 64) :
    serveConfigWrite body s =
      answer .ok { s with cl.staging := writeStaging (at1 body 0) body.tail s.cl.staging } := by
  simp [serveConfigWrite, h, Nat.not_lt.2 h2, Nat.not_lt.2 hfit]

end

/-! ### The command -/

/-- CONFIG-WRITE does and answers what its owner decides at the end of the frame, in every start-up state (R174, R175). -/
theorem exec_configWrite_of_serve {s : State} {body : List Byte} (hp : s.portReady) (hb : body.length ≤ 44)
    {code : ReplyCode} {t : State} (hserve : serveConfigWrite body s.heard = answer code t) :
    exec (.configWrite body) s = .next (sendReply ⟨0x40, code, []⟩ t) := by
  have howner : serveOwner .configWrite body s.heard = answer code t := hserve
  have hexec := exec_command_early .configWrite body s hp (by simp) hb rfl (.inl rfl)
  rwa [howner] at hexec

/-- Settles O26: each case of the checks is one equation of `serveConfigWrite`, and the bytes are those of `writeStaging`. -/
theorem configWriteStages : Obligations.ConfigWriteStages := by
  intro s body hp hb
  have hexec {code : ReplyCode} {t : State} := exec_configWrite_of_serve hp hb (code := code) (t := t)
  constructor
  · intro hwait hnot
    have hclosed : ¬ s.heard.configurable = true := fun h => ((configurable_iff s.heard).1 h).elim hwait hnot
    exact hexec (serveConfigWrite_not_configurable body s.heard hclosed)
  intro hstartup
  have hopen : s.heard.configurable = true := (configurable_iff s.heard).2 hstartup
  refine ⟨fun hbad => hexec (serveConfigWrite_unfit s.heard hopen hbad), fun h2 hfit hlen => ?_⟩
  have htail : body.tail.length = body.length - 1 := List.length_tail
  have hoffset : at1 body 0 ≤ s.cl.staging.length := by omega
  refine ⟨writeStaging (at1 body 0) body.tail s.cl.staging,
    hexec (serveConfigWrite_accepted s.heard hopen h2 hfit), ?size, fun i hi => ?data, fun i hi => ?others⟩
  case size => rw [length_writeStaging (by omega), hlen]
  case data => rw [byteAt_writeStaging_data hoffset (by omega), byteAt_tail]
  case others =>
    rcases hi with hbelow | habove
    · exact byteAt_writeStaging_below hoffset hbelow
    · exact byteAt_writeStaging_above hoffset (by omega)

end Sys2Proof.Machine
end

section
/-!
SUPPORT. The frames of the run's actions (R12 to R24): what RS, with ZC, GC, BD and BU behind it, may set when it starts, ends, holds,
resumes or aborts a step, and that everything else stays. `besideRun` blanks the fields that these actions set.
-/
namespace Sys2Proof.Machine

/-! ### What an action of the run leaves alone -/

/-- The state with everything blanked that the actions of the run set: RS, the parts they hand to ZC, GC, BD and BU, and what the
reactions to them set. Two states equal in this are equal in every other field. -/
def State.besideRun (s : State) : State :=
  { s.withoutReactions with
    rs := Sequencer.reset
    zc := { s.withoutReactions.zc with
      zones := PerZone.build fun z => { s.zoneC z with target := none }
      rate := none, band := none, settle := none, rampWait := false }
    gc := { s.withoutReactions.gc with
      lines := PerLine.build fun l => { s.line l with commanded := 0, latch := false, devTimer := none }
      acc := 0, requirement := none, abortPurge := false }
    bd := { s.withoutReactions.bd with
      c := 0, move := none, factor := .full, droopWait := false, bdir := false, droop := none }
    bu := { s.withoutReactions.bu with purge := ⟨0, 0⟩ } }

/-- States that agree beside the reactions agree beside the run. -/
theorem besideRun_of_withoutReactions {s t : State} (h : t.withoutReactions = s.withoutReactions) :
    t.besideRun = s.besideRun := by
  have hz : t.zc.zones = s.zc.zones := congrArg (·.zc.zones) h
  have hl : t.gc.lines = s.gc.lines := congrArg (·.gc.lines) h
  simp only [State.besideRun, State.zoneC, State.line, h, hz, hl]

@[simp] theorem commit_besideRun (s0 s : State) : (commit s0 s).besideRun = s.besideRun :=
  besideRun_of_withoutReactions (commit_withoutReactions s0 s)

@[simp] theorem raiseEvent_besideRun (k : EventKind) (s : State) : (raiseEvent k s).besideRun = s.besideRun := rfl

/-- What RS alone holds is not beside the run. -/
theorem besideRun_setRs (s : State) (q : Sequencer) : ({ s with rs := q } : State).besideRun = s.besideRun := rfl

@[simp] theorem takeIdleSource_besideRun (s : State) : (takeIdleSource s).besideRun = s.besideRun := rfl
@[simp] theorem takeIdleFlows_besideRun (s : State) : (takeIdleFlows s).besideRun = s.besideRun := rfl
@[simp] theorem takeAbortFlows_besideRun (s : State) : (takeAbortFlows s).besideRun = s.besideRun := rfl
@[simp] theorem stopBoat_besideRun (s : State) : (stopBoat s).besideRun = s.besideRun := rfl
@[simp] theorem takeThermal_besideRun (p : ThermalPart) (s : State) : (takeThermal p s).besideRun = s.besideRun := rfl
@[simp] theorem takeGas_besideRun (p : GasPart) (s : State) : (takeGas p s).besideRun = s.besideRun := rfl

@[simp] theorem enterHeld_besideRun (s : State) : (enterHeld s).besideRun = s.besideRun := by
  rw [enterHeld, commit_besideRun]; rfl
@[simp] theorem enterIdle_besideRun (s : State) : (enterIdle s).besideRun = s.besideRun := by
  rw [enterIdle, commit_besideRun]; rfl
@[simp] theorem beginAbort_besideRun (s : State) : (beginAbort s).besideRun = s.besideRun := by
  rw [beginAbort, commit_besideRun]; rfl
@[simp] theorem leaveHeld_besideRun (run : RunState) (s : State) : (leaveHeld run s).besideRun = s.besideRun := by
  rw [leaveHeld, commit_besideRun]; rfl

/-! ### The boat's part of a step start -/

/-- All that a droop evaluation can do: nothing, or it sets the speed factor, the droop-wait flag and the droop (R93, R94). -/
theorem evaluateDroop_cases (s : State) :
    evaluateDroop s = s ∨ ∃ f w d, evaluateDroop s = { s with bd.factor := f, bd.droopWait := w, bd.droop := d } := by
  unfold evaluateDroop
  split
  · exact .inl rfl
  · split
    · exact .inl rfl
    · split
      · exact .inr ⟨_, _, _, rfl⟩
      · exact .inr ⟨_, _, _, rfl⟩

/-- All that the arrival test can do: nothing, or the move ends with BOAT-ARRIVED (R96). -/
theorem testArrival_cases (s : State) :
    testArrival s = s ∨ s.arrives = true ∧
      testArrival s = raiseEvent .boatArrived { s with bd.move := none, bd.droopWait := false, bd.pulse := none } := by
  unfold testArrival
  split
  · next h => exact .inr ⟨h, rfl⟩
  · exact .inl rfl

@[simp] theorem evaluateDroop_besideRun (s : State) : (evaluateDroop s).besideRun = s.besideRun := by
  rcases evaluateDroop_cases s with h | ⟨f, w, d, h⟩ <;> rw [h] <;> rfl
@[simp] theorem testArrival_besideRun (s : State) : (testArrival s).besideRun = s.besideRun := by
  rcases testArrival_cases s with h | ⟨-, h⟩ <;> rw [h] <;> rfl
@[simp] theorem takeTarget_besideRun (m : BoatPart) (s : State) : (takeTarget m s).besideRun = s.besideRun :=
  calc (takeTarget m s).besideRun
    _ = (testArrival (evaluateDroop _)).besideRun := rfl
    _ = s.besideRun := by rw [testArrival_besideRun, evaluateDroop_besideRun]; rfl

/-! ### Step start and completion -/

/-- What holds of every hand-over of a part holds where the record may have none. -/
theorem handOver_besideRun {α : Type} (part : Option α) (take : α → State → State) (s : State)
    (h : ∀ p s, (take p s).besideRun = s.besideRun) : (handOver part take s).besideRun = s.besideRun := by
  cases part with
  | none => rfl
  | some p => exact h p s

@[simp] theorem startStep_besideRun (r : StepRecord) (s : State) : (startStep r s).besideRun = s.besideRun := by
  unfold startStep
  rw [commit_besideRun]
  calc _ = (handOver r.boat takeTarget (handOver r.gas takeGas (handOver r.thermal takeThermal (makeCurrent r s)))).besideRun := rfl
    _ = s.besideRun := by
      rw [handOver_besideRun _ _ _ takeTarget_besideRun, handOver_besideRun _ _ _ takeGas_besideRun,
        handOver_besideRun _ _ _ takeThermal_besideRun]
      rfl

/-- All that an evaluation does to the dwell timer (R15). -/
theorem updateDwell_cases (s : State) : ∃ d, updateDwell s = { s with rs.dwell := d } := by
  unfold updateDwell
  split
  · exact ⟨s.rs.dwell, rfl⟩
  · split
    · split
      · split
        · exact ⟨_, rfl⟩
        · exact ⟨s.rs.dwell, rfl⟩
      · split
        · exact ⟨_, rfl⟩
        · exact ⟨s.rs.dwell, rfl⟩
      · exact ⟨s.rs.dwell, rfl⟩
    · exact ⟨s.rs.dwell, rfl⟩

/-- A step that completes with nothing queued leaves the run STARVED (R16, R18). -/
def starve (s : State) : State := raiseEvent .starved { s with rs.run := .starved }

/-- What is kept by each thing an evaluation of completion can do, a step ended and the next one begun among them, is kept by the
evaluation (R14, R16). -/
theorem evaluate_keeps (P : State → Prop) (hdwell : ∀ s d, P s → P { s with rs.dwell := d })
    (hlast : ∀ s r, s.rs.run = .running → s.rs.current = some r → P s → P (enterIdle (finishStep r s)))
    (hstarve : ∀ s r, s.rs.run = .running → s.rs.current = some r → s.rs.queue = [] → P s → P (starve (finishStep r s)))
    (hnext : ∀ s r n rest, s.rs.run = .running → s.rs.current = some r → s.rs.queue = n :: rest → P s →
      P (startStep n { finishStep r s with rs.queue := rest }))
    (s : State) (h : P s) : P (evaluate s) := by
  unfold evaluate
  generalize s.rs.queue.length + 1 = fuel
  induction fuel generalizing s with
  | zero => exact h
  | succ fuel ih =>
    obtain ⟨d, hd⟩ := updateDwell_cases s
    have hs : P (updateDwell s) := hd ▸ hdwell s d h
    simp only [evaluateLoop]
    generalize updateDwell s = s1 at hs
    split
    · next r hrun hcur =>
      split
      · split
        · exact hlast s1 r hrun hcur hs
        · split
          · next hq => exact hstarve s1 r hrun hcur hq hs
          · next n rest hq => exact ih _ (hnext s1 r n rest hrun hcur hq hs)
      · exact hs
    · exact hs

@[simp] theorem finishStep_besideRun (r : StepRecord) (s : State) : (finishStep r s).besideRun = s.besideRun := rfl
@[simp] theorem starve_besideRun (s : State) : (starve s).besideRun = s.besideRun := rfl

@[simp] theorem evaluate_besideRun (s : State) : (evaluate s).besideRun = s.besideRun :=
  evaluate_keeps (·.besideRun = s.besideRun)
    (hdwell := fun _ _ h => h)
    (hlast := fun _ _ _ _ h => by rw [enterIdle_besideRun, finishStep_besideRun, h])
    (hstarve := fun _ _ _ _ _ h => h)
    (hnext := fun _ _ _ _ _ _ _ h => by rw [startStep_besideRun]; exact h) s rfl

@[simp] theorem stepStart_besideRun (r : StepRecord) (s : State) : (stepStart r s).besideRun = s.besideRun := by
  rw [stepStart, evaluate_besideRun, startStep_besideRun]

/-- Outside RUNNING an evaluation changes nothing (R14). -/
theorem evaluate_of_ne_running {s : State} (h : s.rs.run ≠ .running) : evaluate s = s := by
  have hd : updateDwell s = s := by
    unfold updateDwell
    split
    · rfl
    · exact if_neg fun h' => h h'.1
  simp only [evaluate, evaluateLoop, hd]
  split
  · next hrun _ => exact absurd hrun h
  · rfl

end Sys2Proof.Machine
end

section
/-!
SUPPORT. What a command can do, said once. Every command is a chain of actions, each followed by its reactions: an action of the run, of the
boat, of the gas lines and heaters, of the shares, of the bank line, of the fault log, of the port or of the loader. `exec_acts` below
ties the chain to `exec`; an invariant is then shown action by action.
-/
namespace Sys2Proof.Machine

/-! ### The actions, block by block -/

/-- The commands whose faults order an abort: OVERTEMP of a sample, ZONE-LOST of Z3, BOAT-STALL and BOAT-SLIP of an evaluation (R157). -/
inductive GivesOrder : Instr → Prop
  | sample (b1 b2 b3 b4 : Byte) : GivesOrder (.sampleRecord b1 b2 b3 b4)
  | zoneLost : GivesOrder (.holdTimerExpiry .z3)
  | boat : GivesOrder .bdEvaluation

/-- What brings an abort: an order of this command, one that has waited for it, or the RUN-ABORT that is served (R23, R162, log 35). -/
def MayAbort (c : Instr) (r : Option Request) (s : State) : Prop :=
  s.rs.run.abortable = true ∧
    (GivesOrder c ∨ s.rs.abortOrdered = true ∧ meetsOrder c = true ∨ r = some .runAbort)

/-- The actions of the run, in command `c` and in the service of `r`. -/
inductive RunAct (c : Instr) (r : Option Request) : State → State → Prop
  | hold {s} : s.rs.run = .running ∨ s.rs.run = .starved → RunAct c r s (enterHeld s)
  | endAbort {s} : s.rs.run = .aborting →
      (c = .abortTimeout ∧ s.rs.abortTimer.active = true) ∨
        (c = .gcPeriod ∧ s.gc.abortPurge = true ∧ s.abortPurgeMet = true) → RunAct c r s (enterIdle s)
  | endPurge {s} : s.rs.run ≠ .aborting → s.gc.abortPurge = true → RunAct c r s { s with gc.abortPurge := false }
  | abort {s} (b : Bool) : MayAbort c r s → b = s.rs.abortOrdered ∨ b = false →
      RunAct c r s (beginAbort { s with rs.abortOrdered := b })
  | abortAtOnce {s} (b : Bool) : MayAbort c r s → b = s.rs.abortOrdered ∨ b = false →
      RunAct c r s (enterIdle (beginAbort { s with rs.abortOrdered := b }))
  | order {s} : GivesOrder c → s.rs.run.abortable = true → s.orderMeets = true ∨ c = .bdEvaluation →
      RunAct c r s { s with rs.abortOrdered := true }
  | dropOrder {s} : s.rs.abortOrdered = true → s.rs.run.abortable = false → RunAct c r s { s with rs.abortOrdered := false }
  | evaluate {s} : RunAct c r s (Machine.evaluate s)
  | tick {s} : s.rs.run ≠ .idle →
      RunAct c r s { s with rs.clock := satSucc Config.count32 s.rs.clock, rs.clockPhase := .running 1000 }
  | timeOut {s} : s.rs.run = .running → RunAct c r s { s with rs.stepTimer := .expired }
  | dwell {s} (n : Nat) : c = .dwellExpiry → s.dwellPending = some n → RunAct c r s { s with rs.dwell := ⟨.counting, n * 1000, true⟩ }
  | append {s} (raw : RawStep) : r = some .stepAppend → s.released = true → s.rs.run ≠ .starved → s.rs.run ≠ .aborting →
      s.rs.queue.length < Config.queueCapacity → RunAct c r s { s with rs.queue := s.rs.queue ++ [storeStep s.image raw] }
  | appendStart {s} (raw : RawStep) (n : StepRecord) (rest : List StepRecord) : r = some .stepAppend → s.released = true →
      s.rs.run = .starved → s.rs.queue.length < Config.queueCapacity → s.rs.queue ++ [storeStep s.image raw] = n :: rest →
      RunAct c r s (stepStart n { s with rs.queue := rest })
  | clearQueue {s} : r = some .queueClear → s.rs.run = .idle ∨ s.rs.run = .held → s.released = true →
      RunAct c r s { s with rs.queue := [] }
  | start {s} (n : StepRecord) (rest : List StepRecord) : r = some .runStart → s.released = true → s.rs.run = .idle →
      s.rs.queue = n :: rest →
      RunAct c r s (stepStart n { s with
        rs.clock := 0, rs.clockPhase := .running 1000, rs.done := 0, rs.discarded := 0, rs.lastLabel := none
        rs.thermal := none, rs.gas := none, rs.queue := rest })
  | resumeStarved {s} : r = some .runResume → s.rs.run = .held → s.rs.prior = some .starved → s.rs.queue = [] →
      RunAct c r s (leaveHeld .starved s)
  | resumeStart {s} (n : StepRecord) (rest : List StepRecord) : r = some .runResume → s.rs.run = .held →
      s.rs.prior = some .starved → s.rs.queue = n :: rest →
      RunAct c r s (stepStart n { leaveHeld .running s with rs.queue := rest })
  | resume {s} : r = some .runResume → s.rs.run = .held → s.rs.prior ≠ some .starved →
      RunAct c r s (Machine.evaluate (restartTimeout (leaveHeld .running s)))

/-- The actions of the fault log. -/
inductive FaultAct (r : Option Request) : State → State → Prop
  | take {s} (k : FaultKind) (sub : FaultSubject) (v : FaultValue) : FaultAct r s (takeFault k sub v s)
  | clear {s} : r = some .faultClear → s.released = true → s.rs.run ≠ .aborting →
      FaultAct r s { s with fl := FaultLog.reset, zm.zones := PerZone.build fun z => releaseOvertemp (s.zoneM z) }

/-- The actions of the boat, its pins among them. -/
inductive BoatAct (c : Instr) (r : Option Request) : State → State → Prop
  | move {s} (raw : BoatPart) : r = some .boatMove → s.released = true → s.rs.run = .idle →
      BoatAct c r s (commit s (takeTarget (storeBoat s.image raw) s))
  | count {s} (line : EncoderLine) : c = .encoderCount line → s.released = true →
      BoatAct c r s (commit s (takeCount line (toggleEncoder line s.pins) s))
  | pins {s} (p : Pins) : p.sealed = s.pins.sealed →
      p.loadclr = s.pins.loadclr ∨ p.loadclr = true ∨ s.released = false → BoatAct c r s { s with pins := p }
  | reclear {s} : s.released = true → s.bd.gate = .closed →
      BoatAct c r s { s with pins.loadclr := true, bd.gate := .reclearing, bd.reclear := .running Config.reclearMs }
  | closeGate {s} : s.released = true →
      BoatAct c r s (commit s { s with pins.loadclr := false, bd.gate := .closed, bd.reclear := .stopped })
  | openGate {s} : s.bd.gate = .reclearing →
      BoatAct c r s (commit s { s with bd.gate := .opened, bd.reclear := .stopped })
  | pulse {s} (m : BoatPart) : c = .stepPulse → s.bd.move = some m → s.pulsing = true →
      BoatAct c r s (commit s
        { s with bd.c := stepToward m.target s.bd.c, bd.pulses := s.bd.pulses + 1, bd.pulse := some 0 })
  | marks {s} (ms : List Mark) : s.released = true →
      (s.bd.marks.length ≤ Config.markCapacity → ms.length ≤ Config.markCapacity) → BoatAct c r s { s with bd.marks := ms }
  | lastMark {s} (m : LastMark) : s.released = true → BoatAct c r s { s with bd.lastMark := some m }
  | rebase {s} (diff : Int) (m : LastMark) : c = .bdEvaluation → s.released = true →
      BoatAct c r s (commit s { s with
        bd.e := rebasePosition diff s.bd.e, bd.c := rebasePosition diff s.bd.c, bd.referenced := true, bd.lastMark := some m })
  | stop {s} (s0 : State) : c = .bdEvaluation → s.released = true → s0.shareInputs = s.shareInputs ∨ s.HeldWithinComputed →
      BoatAct c r s (commit s0 (stopMove s))
  | droop {s} : s.released = true → BoatAct c r s (commit s (evaluateDroop s))
  | arrive {s} : c = .bdEvaluation → s.released = true → BoatAct c r s (commit s (testArrival s))
  | phase {s} : s.released = true → BoatAct c r s { s with bd.phase := .running Config.evaluationMs }

/-- The actions of the gas lines, SEAL among them. -/
inductive GasAct (c : Instr) : State → State → Prop
  | sealPin {s} (b : Bool) : GasAct c s (commit s { s with pins.sealed := b })
  | lines {s} (ls : PerLine LineControl) : s.released = true ∨ s.gc ≠ Gas.reset →
      (∀ l, (ls.get l).commanded = (s.line l).commanded) → GasAct c s { s with gc.lines := ls }
  | accumulate {s} : c = .gcPeriod → s.released = true → GasAct c s (accumulatePurge s)
  | phase {s} : s.released = true → GasAct c s { s with gc.phase := .running Config.periodMs }
  | repeated {s} (l : GasLine) : (s.line l).repeatTimer.active = true →
      GasAct c s { s with
        gc.lines := s.gc.lines.set l { s.line l with repeatTimer := .expired }, gc.queue := joinQueue l s.gc.queue }
  | send {s} (l : GasLine) (rest : List GasLine) : c = .setpointRecordSend → s.gc.queue = l :: rest →
      GasAct c s { s with
        gc.lines := s.gc.lines.set l { s.line l with repeatTimer := .running Config.repeatMs }
        gc.queue := rest, gc.sent := some ⟨l, s.appliedFlow l⟩ }
  | hand {s} : c = .gcPeriod → s.released = true → GasAct c s (handPurge s)

/-- The actions of zone measurement and zone control. -/
inductive ZoneAct (c : Instr) : State → State → Prop
  | measure {s} (m : Measurement) : s.released = true ∨ s.zm ≠ Measurement.reset →
      (s.zm.checkErrors ≤ Config.count16 → m.checkErrors ≤ Config.count16) →
      (s.zm.ignored ≤ Config.count16 → m.ignored ≤ Config.count16) → ZoneAct c s { s with zm := m }
  | period {s} : c = .zcPeriod → s.released = true → ZoneAct c s (zcStages s)
  | window {s} (z : Zone) (w : Window) : s.released = true ∨ s.zc ≠ Heat.reset → ZoneAct c s (setWindow z w s)

/-- The form of the link that R136, R137, R141 and R130 give it: MUTE at eight abandonments, no attempt in it, a busy line in an
attempt. -/
def Bank.Formed (b : Bank) : Prop :=
  b.mute = decide (b.abandons = Config.abandonLimit) ∧ (b.mute = true → b.attempt = none) ∧
    (b.attempt.isSome → b.line = .busy)

/-- The actions of the bank line that leave the shares alone. -/
inductive BankAct (c : Instr) : State → State → Prop
  | bank {s} (b : Bank) : s.bl ≠ Bank.reset ∨ c = .debounceTimerExpiry → b.phase = s.bl.phase → b.isolated = s.bl.isolated → b.mute = s.bl.mute →
      (s.bl.announceSlot = true → b.announceSlot = true) → (s.bl.Formed → b.Formed) →
      (s.bl.abandons ≤ Config.abandonLimit → b.abandons ≤ Config.abandonLimit) →
      (s.bl.rxErrors ≤ Config.count16 → b.rxErrors ≤ Config.count16) → BankAct c s { s with bl := b }
  | mute {s} (a : Attempt) : c = .attemptAbandoned → s.bl.attempt = some a →
      satSucc Config.abandonLimit s.bl.abandons = Config.abandonLimit →
      BankAct c s (enterMute { s with bl.attempt := none, bl.abandons := satSucc Config.abandonLimit s.bl.abandons })
  | unmute {s} : s.bl.mute = true →
      BankAct c s (raiseEvent .link { s with bl.mute := false, bl.muteTimer := .stopped, bl.abandons := 0 })
  | join {s} : s.bl.phase = .joining → c = .listenTimerExpiry →
      BankAct c s (raiseEvent .link { s with
        cl.startup := .ready, bl.phase := .on, bl.listen := .stopped, bl.announceSlot := true
        bl.announce := .running s.image.announcePeriod })
  | complete {s} (b : AnnounceBody) (a : Attempt) : c = .transmitCompletion → s.bl.attempt = some a → a.frame = .announce b →
      BankAct c s (completeAnnounce b { frameEnds s with bl.attempt := none, bl.abandons := 0 })

/-- The commands in which a peer's frame, the part's own inputs or the loader may change what the shares are computed from (R114). -/
def bringsShares : Instr → Bool
  | .announceReceived .. | .curtailReceived .. | .curtailAckReceived .. | .otherKindFrame .. | .silenceTimerExpiry
  | .debounceTimerExpiry | .serialMemoryReadEnd _ => true
  | _ => false

/-- The actions of the budget unit and of curtailment. -/
inductive ShareAct (c : Instr) : State → State → Prop
  | budget {s} (b : Budget) : s.released = true ∨ s.bl ≠ Bank.reset ∨ s.bu ≠ Budget.reset ∨ c = .debounceTimerExpiry → b.view = s.bu.view →
      b.heater = s.bu.heater → b.purge = s.bu.purge → b.heldHeater = s.bu.heldHeater → b.heldPurge = s.bu.heldPurge →
      b.level = s.bu.level → (s.bu.contentErrors ≤ Config.count16 → b.contentErrors ≤ Config.count16) →
      (∀ k, b.collection = some k → k.expected = [] → ∃ k0, s.bu.collection = some k0 ∧ k0.expected = []) →
      ShareAct c s { s with bu := b }
  | level {s} (l : Level) : s.bl ≠ Bank.reset ∨ c = .debounceTimerExpiry → l ≠ s.bu.level → bringsShares c = true →
      ShareAct c s (raiseEvent .curtail (commit s { s with bu.level := l }))
  | entry {s} (station : StationCode) (body : AnnounceBody) (e : ViewEntry) : s.bl ≠ Bank.reset →
      stationNumber station ≠ s.image.station → readAnnounce (stationNumber station) body = some e → bringsShares c = true →
      ShareAct c s (commit s { s with bu.view := insertEntry e s.bu.view })
  | stale {s} (n : Nat) : c = .entryStale n →
      ShareAct c s (commit s { s with bu.view := s.bu.view.map (staleEntry s.image.announcePeriod n) })
  | remove {s} (n : Nat) : c = .entryRemoved n →
      ShareAct c s (commit s { s with bu.view := s.bu.view.filter (·.station ≠ n) })
  | hear {s} : s.bl.isolated = true → bringsShares c = true →
      ShareAct c s (raiseEvent .link (commit s
        { s with bl.silence := .running (5 * s.image.announcePeriod), bl.isolated := false }))
  | isolate {s} : s.bl.phase = .on → s.bl.silence.active = true → 1 < s.image.bankSize → bringsShares c = true →
      ShareAct c s (raiseEvent .link (commit s { s with bl.silence := .expired, bl.isolated := true }))

/-- The actions of the local port. -/
inductive PortAct (c : Instr) (r : Option Request) : State → State → Prop
  | hear {s} (rx : LpReceiver) (gap : Nat) : (s.resetHeld.isSome → s.lp.rx = .skipping → rx = .skipping) →
      PortAct c r s { s with lp.rx := rx, lp.gap := gap }
  | lineError {s} : PortAct c r s { s with lp.lineErrors := satSucc Config.count16 s.lp.lineErrors }
  | overrun {s} : PortAct c r s { s with lp.overruns := satSucc Config.count16 s.lp.overruns }
  | wait {s} (e : LpEntry) : s.lp.reply.isSome → PortAct c r s { s with lp.slot := some e }
  | replied {s} : c = .replyEnd → PortAct c r s { s with lp.reply := none, lp.replyTimer := .stopped, lp.slot := none }
  | reply {s} (a : Reply) : PortAct c r s (sendReply a s)
  | readEvents {s} : r = some .eventRead → PortAct c r s { s with lp.events := [] }

/-- The actions of the configuration loader. -/
inductive LoadAct (c : Instr) (r : Option Request) : State → State → Prop
  | powerOn {s} : c = .powerOnReset → LoadAct c r s (enterReset .powerOn FaultLog.reset s)
  | warm {s} : c = .warmReset → s.resetHeld = none → LoadAct c r s (enterReset .warm s.fl s)
  | endReset {s} (cfgsrc : ConfigSource) (addr : BitVec 3) : c = .resetEnd cfgsrc addr → s.resetHeld.isSome → LoadAct c r s (Machine.endReset cfgsrc addr s)
  | stage {s} (bytes : List Byte) : s.released = false → (s.cl.staging.length = 64 → bytes.length = 64) →
      LoadAct c r s { s with cl.staging := bytes }
  | release {s} : s.released = false → s.resetHeld = none ∨ s.cl.startup ≠ .loading →
      bringsShares c = true ∨ r = some .configDone → LoadAct c r s (Machine.release s)
  | refuse {s} : s.released = false → s.resetHeld = none ∨ s.cl.startup ≠ .loading →
      LoadAct c r s { s with cl.startup := .notConfigured }

/-- One action of the part in command `c`, and in the service of `r` while a request is served. -/
inductive Act (c : Instr) (r : Option Request) : State → State → Prop
  | run {s t} : RunAct c r s t → Act c r s t
  | fault {s t} : FaultAct r s t → Act c r s t
  | boat {s t} : BoatAct c r s t → Act c r s t
  | gas {s t} : GasAct c s t → Act c r s t
  | zone {s t} : ZoneAct c s t → Act c r s t
  | bank {s t} : BankAct c s t → Act c r s t
  | share {s t} : ShareAct c s t → Act c r s t
  | port {s t} : PortAct c r s t → Act c r s t
  | load {s t} : LoadAct c r s t → Act c r s t
  | choose {s} (n : Nat) : Act c r s { s with free := n }

/-- A chain of actions in command `c` and in the service of `r`. -/
abbrev Acts (c : Instr) (r : Option Request) : State → State → Prop := Relation.ReflTransGen (Act c r)

/-- A chain of actions in command `c`, whatever is served in it. -/
abbrev Does (c : Instr) : State → State → Prop := Relation.ReflTransGen fun s t => ∃ r, Act c r s t

theorem Acts.does {c : Instr} {r : Option Request} {s t : State} (h : Acts c r s t) : Does c s t :=
  h.lift id fun _ _ h => ⟨r, h⟩

end Sys2Proof.Machine
end

section
/-!
SUPPORT. Every command is a chain of actions: `exec_acts`, put together from one chain for each function that a command's meaning
calls.
-/
namespace Sys2Proof.Machine

open Relation

/-! ### Chains -/

section
variable {c : Instr} {r : Option Request} {s t u : State}

/-- One action is a chain. -/
theorem Act.acts (h : Act c r s t) : Acts c r s t := ReflTransGen.single h

theorem RunAct.acts (h : RunAct c r s t) : Acts c r s t := (Act.run h).acts
theorem FaultAct.acts (h : FaultAct r s t) : Acts c r s t := (Act.fault h).acts
theorem BoatAct.acts (h : BoatAct c r s t) : Acts c r s t := (Act.boat h).acts
theorem GasAct.acts (h : GasAct c s t) : Acts c r s t := (Act.gas h).acts
theorem ZoneAct.acts (h : ZoneAct c s t) : Acts c r s t := (Act.zone h).acts
theorem BankAct.acts (h : BankAct c s t) : Acts c r s t := (Act.bank h).acts
theorem ShareAct.acts (h : ShareAct c s t) : Acts c r s t := (Act.share h).acts
theorem PortAct.acts (h : PortAct c r s t) : Acts c r s t := (Act.port h).acts
theorem LoadAct.acts (h : LoadAct c r s t) : Acts c r s t := (Act.load h).acts

end

/-! ### Abort orders and faults -/

@[simp] theorem beginAbort_run (s : State) : (beginAbort s).rs.run = .aborting := by simp [beginAbort, stopStepTimers]

/-- An entry to ABORTING stays there, or its purge is met at once and it ends in IDLE (R23, R82). -/
theorem enterAborting_cases (s : State) :
    enterAborting s = beginAbort s ∨ enterAborting s = enterIdle (beginAbort s) := by
  unfold enterAborting testAbortPurge
  split
  · exact .inr (if_pos (beginAbort_run s))
  · exact .inl rfl

section
variable {c : Instr} {r : Option Request}

theorem enterAborting_acts {s : State} (b : Bool) (h : MayAbort c r s) (hb : b = s.rs.abortOrdered ∨ b = false) :
    Acts c r s (enterAborting { s with rs.abortOrdered := b }) := by
  rcases enterAborting_cases { s with rs.abortOrdered := b } with h' | h' <;> rw [h']
  · exact (RunAct.abort b h hb).acts
  · exact (RunAct.abortAtOnce b h hb).acts

theorem takeAbortOrder_acts {s : State} (h : GivesOrder c) : Acts c r s (takeAbortOrder s) := by
  unfold takeAbortOrder
  split
  · next hab => exact enterAborting_acts s.rs.abortOrdered ⟨hab, .inl h⟩ (.inl rfl)
  · exact .refl

theorem giveAbortOrder_acts {s : State} (b : Bool) (h : GivesOrder c) (hb : b = true → s.orderMeets = true ∨ c = .bdEvaluation) :
    Acts c r s (giveAbortOrder b s) := by
  have hfree : Acts c r s { s with free := s.free + 1 } := (Act.choose _).acts
  rcases giveAbortOrder_cases b s with h' | ⟨htrue, hab, h' | h'⟩ <;> rw [h']
  · exact takeAbortOrder_acts h
  · exact hfree.trans (enterAborting_acts s.rs.abortOrdered ⟨hab, .inl h⟩ (.inl rfl))
  · exact hfree.trans (RunAct.order (s := { s with free := s.free + 1 }) h hab (hb htrue)).acts

theorem takeWaitingOrder_acts {s : State} (h : GivesOrder c ∨ meetsOrder c = true) : Acts c r s (takeWaitingOrder s) := by
  rcases takeWaitingOrder_cases s with ⟨-, h'⟩ | ⟨hord, ⟨hab, h'⟩ | ⟨hab, h'⟩⟩ <;> rw [h']
  · exact (RunAct.dropOrder hord hab).acts
  · exact enterAborting_acts false ⟨hab, h.elim .inl fun h => .inr (.inl ⟨hord, h⟩)⟩ (.inr rfl)

theorem reportFaultMeeting_acts {s : State} (b : Bool) (k : FaultKind) (sub : FaultSubject) (v : FaultValue)
    (h : faultClass k sub = .abort → GivesOrder c ∧ (b = true → s.orderMeets = true ∨ c = .bdEvaluation)) :
    Acts c r s (reportFaultMeeting b k sub v s) := by
  have htake : Acts c r s (takeFault k sub v s) := (FaultAct.take k sub v).acts
  unfold reportFaultMeeting
  dsimp only
  split
  · next hrun => exact htake.trans (RunAct.hold (s := takeFault k sub v s) (.inl hrun)).acts
  · next hrun => exact htake.trans (RunAct.hold (s := takeFault k sub v s) (.inr hrun)).acts
  · next hcls => exact htake.trans (giveAbortOrder_acts b (h hcls).1 (h hcls).2)
  · exact htake

theorem reportFault_acts {s : State} (k : FaultKind) (sub : FaultSubject) (v : FaultValue)
    (h : faultClass k sub = .abort → GivesOrder c) : Acts c r s (reportFault k sub v s) :=
  reportFaultMeeting_acts _ k sub v fun hcls => ⟨h hcls, .inl⟩

/-- A command that an abort order may wait for is its own chain, and then perhaps the taking of the order (log 35). -/
theorem beforeOrder_acts {f : State → State} {s : State} (h : meetsOrder c = true) (hf : Acts c r s (f s)) :
    Acts c r s (beforeOrder f s) := by
  unfold beforeOrder
  split
  · exact hf.trans (takeWaitingOrder_acts (.inr h))
  · exact hf

/-! ### The held grants after a fault -/

/-- From `s` to `t` no input of the shares has changed and no held grant moved, or the held grants lie within the computed ones
(R120). -/
def Lowered (s t : State) : Prop :=
  (t.shareInputs = s.shareInputs ∧ ∀ p, t.heldGrant p = s.heldGrant p) ∨ t.HeldWithinComputed

theorem heldWithinComputed_iff (s : State) : s.HeldWithinComputed ↔ ∀ p, s.heldGrant p ≤ s.computedGrant p :=
  ⟨fun h p => by cases p <;> [exact h.1; exact h.2], fun h => ⟨h .heater, h .purge⟩⟩

theorem Lowered.refl (s : State) : Lowered s s := .inl ⟨rfl, fun _ => rfl⟩

theorem Lowered.trans {s t u : State} (h1 : Lowered s t) (h2 : Lowered t u) : Lowered s u := by
  rcases h2 with ⟨hin, hheld⟩ | h2
  · rcases h1 with ⟨hin1, hheld1⟩ | h1
    · exact .inl ⟨hin.trans hin1, fun p => (hheld p).trans (hheld1 p)⟩
    · rw [heldWithinComputed_iff] at h1
      exact .inr ((heldWithinComputed_iff u).2 fun p => by rw [hheld, computedGrant_congr hin]; exact h1 p)
  · exact .inr h2

/-- What a stop needs of the state it began from (R101, R120). -/
theorem Lowered.stopped {s t : State} (h : Lowered s t) : s.shareInputs = t.shareInputs ∨ t.HeldWithinComputed :=
  h.imp (fun h => h.1.symm) id

theorem Lowered.commit (s : State) {u : State} (h : ∀ p, u.heldGrant p = s.heldGrant p) : Lowered s (commit s u) := by
  by_cases hin : s.shareInputs = u.shareInputs
  · exact .inl ⟨by simp [hin], fun p => by rw [commit_heldGrant, if_pos hin, h]⟩
  · refine .inr ((heldWithinComputed_iff _).2 fun p => ?_)
    rw [commit_heldGrant, if_neg hin, commit_computedGrant]
    exact min_le_right _ _

theorem Lowered.enterIdle (s : State) : Lowered s (enterIdle s) := .commit s fun p => by cases p <;> rfl

theorem Lowered.enterAborting (s : State) : Lowered s (enterAborting s) := by
  have habort : Lowered s (beginAbort s) := .commit s fun p => by cases p <;> rfl
  rcases enterAborting_cases s with h | h <;> rw [h]
  · exact habort
  · exact habort.trans (.enterIdle _)

theorem Lowered.takeAbortOrder (s : State) : Lowered s (takeAbortOrder s) := by
  unfold Machine.takeAbortOrder
  split
  · exact .enterAborting s
  · exact .refl s

theorem Lowered.takeWaitingOrder (s : State) : Lowered s (takeWaitingOrder s) := by
  unfold Machine.takeWaitingOrder
  split
  · exact .trans (t := { s with rs.abortOrdered := false }) (.inl ⟨rfl, fun p => by cases p <;> rfl⟩) (.takeAbortOrder _)
  · exact .refl s

theorem Lowered.reportFaultMeeting (b : Bool) (k : FaultKind) (sub : FaultSubject) (v : FaultValue) (s : State) :
    Lowered s (reportFaultMeeting b k sub v s) := by
  have htake : Lowered s (takeFault k sub v s) := .inl ⟨rfl, fun p => by cases p <;> rfl⟩
  unfold Machine.reportFaultMeeting
  dsimp only
  generalize takeFault k sub v s = u at htake
  split
  · exact htake.trans (.commit _ fun p => by cases p <;> rfl)
  · exact htake.trans (.commit _ fun p => by cases p <;> rfl)
  · have hfree : Lowered u { u with free := u.free + 1 } := .inl ⟨rfl, fun p => by cases p <;> rfl⟩
    rcases giveAbortOrder_cases b u with h | ⟨-, -, h | h⟩ <;> rw [h]
    · exact htake.trans (.takeAbortOrder u)
    · exact htake.trans (hfree.trans (.enterAborting _))
    · exact htake.trans (.inl ⟨rfl, fun p => by cases p <;> rfl⟩)
  · exact htake

/-! ### The boat -/

/-- A stop leaves RS as it was. -/
@[simp] theorem stopMove_rs (s : State) : (stopMove s).rs = s.rs := by unfold stopMove; split <;> simp

theorem handleMark_acts {s : State} (m : Mark) (hc : c = .bdEvaluation) (hr : s.released = true) :
    Acts c r s (handleMark m s) := by
  have hg : GivesOrder c := hc ▸ .boat
  have hlast (l : LastMark) : Lowered s { s with bd.lastMark := some l } := .inl ⟨rfl, fun p => by cases p <;> rfl⟩
  unfold handleMark
  dsimp only
  split
  · refine (BoatAct.lastMark _ hr).acts.trans ((takeWaitingOrder_acts (.inl hg)).trans
      ((reportFaultMeeting_acts _ _ _ _ fun _ => ⟨hg, fun _ => .inr hc⟩).trans (BoatAct.stop _ hc ?_ ?_).acts))
    · simpa [State.released] using hr
    · exact ((hlast _).trans ((Lowered.takeWaitingOrder _).trans (.reportFaultMeeting ..))).stopped
  · exact (BoatAct.rebase _ _ hc hr).acts

theorem markStage_acts {s : State} (hc : c = .bdEvaluation) (hr : s.released = true) : Acts c r s (markStage s) := by
  unfold markStage
  split
  · exact .refl
  · next m rest hm =>
    refine (BoatAct.marks rest hr ?_).acts.trans (handleMark_acts m hc hr)
    rw [hm, List.length_cons]; omega

theorem stallStage_acts {s : State} (hc : c = .bdEvaluation) (hr : s.released = true) : Acts c r s (stallStage s) := by
  have hg : GivesOrder c := hc ▸ .boat
  unfold stallStage
  split
  · refine (takeWaitingOrder_acts (.inl hg)).trans
      ((reportFaultMeeting_acts _ _ _ _ fun _ => ⟨hg, fun _ => .inr hc⟩).trans (BoatAct.stop _ hc ?_ ?_).acts)
    · simpa [State.released] using hr
    · exact ((Lowered.takeWaitingOrder s).trans (.reportFaultMeeting ..)).stopped
  · exact .refl

@[simp] theorem stopMove_cl (s : State) : (stopMove s).cl = s.cl := by unfold stopMove; split <;> simp

@[simp] theorem faultAndStop_cl (k : FaultKind) (v : FaultValue) (s : State) : (faultAndStop k v s).cl = s.cl := by
  simp [faultAndStop]

@[simp] theorem markStage_cl (s : State) : (markStage s).cl = s.cl := by
  unfold markStage
  split
  · rfl
  · unfold handleMark; dsimp only; split <;> simp

@[simp] theorem stallStage_cl (s : State) : (stallStage s).cl = s.cl := by unfold stallStage; split <;> simp

@[simp] theorem evaluateDroop_cl (s : State) : (evaluateDroop s).cl = s.cl :=
  congrArg (·.cl) (evaluateDroop_besideRun s)

theorem droopStage_cl (s : State) : (droopStage s).cl = s.cl := by simp [droopStage]

theorem evaluationStages_acts {s : State} (hc : c = .bdEvaluation) (hr : s.released = true) :
    Acts c r s (evaluationStages s) := by
  have hr1 : (markStage s).released = true := by simpa [State.released] using hr
  have hr2 : (stallStage (markStage s)).released = true := by simpa [State.released] using hr1
  have hr3 : (droopStage (stallStage (markStage s))).released = true := by simpa [State.released, droopStage_cl] using hr2
  refine ((markStage_acts hc hr).trans (stallStage_acts hc hr1)).trans (.trans (BoatAct.droop hr2).acts ?_)
  unfold evaluationStages arrivalStage
  split
  · exact (BoatAct.arrive hc hr3).acts
  · exact .refl

theorem settleOrder_acts {s : State} (h : GivesOrder c) : Acts c r s (settleOrder s) := by
  unfold settleOrder
  split
  next hord =>
    have hfree : Acts c r s { s with free := s.free + 1 } := (Act.choose _).acts
    have hwait (s' : State) (h' : s'.rs.abortOrdered = true) :
        Acts c r s' (takeAbortOrder { s' with rs.abortOrdered := false }) := by
      unfold takeAbortOrder
      split
      · next hab => exact enterAborting_acts false ⟨hab, .inl h⟩ (.inr rfl)
      · next hab => exact (RunAct.dropOrder h' (by simpa using hab)).acts
    rcases giveAbortOrder_cases s.orderMeets { s with rs.abortOrdered := false } with h' | ⟨hm, hab, h' | h'⟩ <;> rw [h']
    · exact hwait s hord
    · exact hfree.trans (enterAborting_acts false ⟨hab, .inl h⟩ (.inr rfl))
    · exact hfree.trans (RunAct.order (s := { s with free := s.free + 1 }) h hab (.inl hm)).acts
  next => exact .refl

theorem bdEvaluates_acts {s : State} (hc : c = .bdEvaluation) : Acts c r s (bdEvaluates s) := by
  unfold bdEvaluates
  split
  · next hr =>
    have hstages : Acts c r s (evaluationStages { s with bd.phase := .running Config.evaluationMs }) :=
      (BoatAct.phase hr).acts.trans (evaluationStages_acts hc hr)
    dsimp only
    generalize evaluationStages { s with bd.phase := .running Config.evaluationMs } = s1 at hstages
    have heval : Acts c r s (if s.boatArrived = s1.boatArrived then s1 else evaluate s1) := by
      split
      · exact hstages
      · exact hstages.trans RunAct.evaluate.acts
    split
    · exact heval
    · exact heval.trans (settleOrder_acts (hc ▸ .boat))
  · exact .refl

/-! ### The gas lines -/

/-- Replacing one line's record keeps every commanded flow where the new record keeps its own. -/
theorem setLine_commanded {s : State} {l : GasLine} {c : LineControl} (h : c.commanded = (s.line l).commanded) (m : GasLine) :
    ((s.gc.lines.set l c).get m).commanded = (s.line m).commanded := by
  cases l <;> cases m <;> first | exact h | rfl

theorem setLine_acts {s : State} (l : GasLine) (lc : LineControl) (hr : s.released = true)
    (h : lc.commanded = (s.line l).commanded) : Acts c r s (setLine l lc s) :=
  (GasAct.lines (s.gc.lines.set l lc) (.inl hr) (setLine_commanded h)).acts

theorem testLine_acts {s0 s : State} (l : GasLine) (hc : c = .gcPeriod) (hr : s.released = true) :
    Acts c r s (testLine s0 s l) := by
  unfold testLine
  dsimp only
  split
  · refine (setLine_acts l _ hr (by rfl)).trans (.trans (takeWaitingOrder_acts (.inr ?_)) (reportFault_acts _ _ _ fun h => ?_))
    · rw [hc]; rfl
    · cases h
  · exact setLine_acts l _ hr (by rfl)

@[simp] theorem testLine_cl (s0 s : State) (l : GasLine) : (testLine s0 s l).cl = s.cl := by
  unfold testLine; dsimp only; split
  · simp; rfl
  · rfl

theorem testLines_acts {s0 : State} (ls : List GasLine) (hc : c = .gcPeriod) {s : State} (hr : s.released = true) :
    Acts c r s (ls.foldl (testLine s0) s) ∧ (ls.foldl (testLine s0) s).cl = s.cl := by
  induction ls generalizing s with
  | nil => exact ⟨.refl, rfl⟩
  | cons l ls ih =>
    have h1 := testLine_acts (r := r) (s0 := s0) l hc hr
    obtain ⟨h2, h3⟩ := ih (s := testLine s0 s l) (by simpa [State.released] using hr)
    exact ⟨h1.trans h2, by rw [List.foldl_cons, h3, testLine_cl]⟩

theorem testAbortPurge_acts {s : State} (hc : c = .gcPeriod) : Acts c r s (testAbortPurge s) := by
  unfold testAbortPurge
  split
  · next h =>
    obtain ⟨hp, hm⟩ := Bool.and_eq_true_iff.1 h
    split
    · next hrun => exact (RunAct.endAbort hrun (.inr ⟨hc, hp, hm⟩)).acts
    · next hrun => exact (RunAct.endPurge hrun hp).acts
  · exact .refl

@[simp] theorem evaluate_cl (s : State) : (evaluate s).cl = s.cl := congrArg (·.cl) (evaluate_besideRun s)

theorem purgeStages_acts {s : State} (hc : c = .gcPeriod) (hr : s.released = true) : Acts c r s (purgeStages s) := by
  refine .trans (GasAct.accumulate hc hr).acts ?_
  unfold purgeStages
  dsimp only
  split
  · exact testAbortPurge_acts hc
  · exact RunAct.evaluate.acts.trans (testAbortPurge_acts hc)

@[simp] theorem purgeStages_cl (s : State) : (purgeStages s).cl = s.cl := by
  unfold purgeStages; dsimp only; split <;> simp [accumulatePurge]

theorem gcPasses_acts {s : State} (hc : c = .gcPeriod) : Acts c r s (gcPasses s) := by
  unfold gcPasses
  split
  · next hr =>
    have hr1 : (purgeStages s).released = true := by simpa [State.released] using hr
    obtain ⟨hlines, hcl⟩ := testLines_acts (c := c) (r := r) (s0 := s) GasLine.all hc hr1
    have hr2 : (GasLine.all.foldl (testLine s) (purgeStages s)).released = true := by
      simpa [State.released, hcl] using hr
    refine ((purgeStages_acts hc hr).trans hlines).trans (.trans (GasAct.hand hc hr2).acts (GasAct.phase ?_).acts)
    simpa [State.released, handPurge] using hr2
  · exact .refl

theorem zcPasses_acts {s : State} (hc : c = .zcPeriod) : Acts c r s (zcPasses s) := by
  unfold zcPasses
  split
  · next hr =>
    have h := (ZoneAct.period hc hr).acts (r := r)
    dsimp only
    split
    · exact h
    · exact h.trans RunAct.evaluate.acts
  · exact .refl

end

end Sys2Proof.Machine
end

section
/-!
SUPPORT. The remaining chains: the bank line with the shares and curtailment, the zones, the port with the requests, the timers and the
loader; and `exec_acts`, that every command is a chain of actions.
-/
namespace Sys2Proof.Machine

open Relation

/-! ### Saturating counts -/

/-- A saturating count stays within its top. -/
theorem satSucc_le {top n : Nat} (h : n ≤ top) : satSucc top n ≤ top := by unfold satSucc; split <;> omega

/-- A saturating count never falls. -/
theorem le_satSucc (top n : Nat) : n ≤ satSucc top n := by unfold satSucc; split <;> omega

/-! ### The bank line -/

section
variable {c : Instr} {r : Option Request} {s : State}

/-- A link that has left INACTIVE is not as reset left it. -/
theorem bl_ne_reset_of_phase (h : s.bl.phase ≠ .inactive) : s.bl ≠ Bank.reset := fun h' => h (by rw [h']; rfl)

/-- A part that is transmitting is not as reset left it. -/
theorem bl_ne_reset_of_attempt (h : s.bl.attempt.isSome) : s.bl ≠ Bank.reset := fun h' => by simp [h', Bank.reset] at h

theorem frameEnds_acts (h : s.receiving = true) : Acts c r s (frameEnds s) := by
  have hp : s.bl.phase ≠ .inactive := by simp only [State.receiving, Bool.and_eq_true, decide_eq_true_eq] at h; exact h.1
  refine (BankAct.bank { s.bl with line := .recessive 0 } (.inl (bl_ne_reset_of_phase hp)) rfl rfl rfl id ?_ id id).acts
  rintro ⟨hm, hs, hl⟩
  refine ⟨hm, hs, fun ha => ?_⟩
  simp only [State.receiving, hl ha, Bool.and_eq_true] at h
  have hn : s.bl.attempt = none := by simpa using h.2
  simp [hn] at ha

theorem noFrame_acts : Acts c r s (noFrame s) := by
  by_cases h : s.bl = Bank.reset
  · have : noFrame s = s := by
      cases s
      cases h
      rfl
    rw [this]
  · refine (BankAct.bank { s.bl with line := glitchLine s.bl.line } (.inl h) rfl rfl rfl id ?_ id id).acts
    rintro ⟨hm, hs, hl⟩
    exact ⟨hm, hs, fun ha => by rw [hl ha]; rfl⟩

/-- A frame on the line: what it does where it is taken, or dominant activity that is no frame (R132). -/
theorem meetFrame_acts {effect : State → State}
    (h : ∀ u : State, u.bl.phase ≠ .inactive → u.cl = s.cl → Acts c r u (effect u)) : Acts c r s (meetFrame effect s) := by
  unfold meetFrame
  split
  · next hr =>
    refine (frameEnds_acts hr).trans (h _ ?_ rfl)
    simp only [State.receiving, Bool.and_eq_true, decide_eq_true_eq] at hr
    exact hr.1
  · exact noFrame_acts

theorem peerHeard_acts (hc : bringsShares c = true) (h : s.bl.phase ≠ .inactive) : Acts c r s (peerHeard s) := by
  unfold peerHeard
  dsimp only
  split
  · next hi => exact (ShareAct.hear hi hc).acts
  · exact (BankAct.bank { s.bl with silence := .running (5 * s.image.announcePeriod) } (.inl (bl_ne_reset_of_phase h)) rfl rfl rfl
      id id id id).acts

@[simp] theorem peerHeard_cl (s : State) : (peerHeard s).cl = s.cl := by
  unfold peerHeard; dsimp only; split <;> simp
@[simp] theorem peerHeard_phase (s : State) : (peerHeard s).bl.phase = s.bl.phase := by
  unfold peerHeard; dsimp only; split <;> simp

/-- The effect of a peer frame in BU, and at BL before or after it (R133, log 16). -/
theorem withPeerFrame_acts (hc : bringsShares c = true) {effect : State → State} (hp : s.bl.phase ≠ .inactive)
    (h : ∀ u : State, u.bl.phase ≠ .inactive → u.cl = s.cl →
      Acts c r u (effect u) ∧ (effect u).bl.phase = u.bl.phase) : Acts c r s (withPeerFrame effect s) := by
  have hheard (u : State) (hu : u.bl.phase ≠ .inactive) (hcl : u.cl = s.cl) : Acts c r u (effect (peerHeard u)) :=
    (peerHeard_acts hc hu).trans (h _ (by simpa using hu) (by simpa using hcl)).1
  unfold withPeerFrame
  split
  · have hfree : Acts c r s { s with free := s.free + 1 } := (Act.choose _).acts
    dsimp only
    split
    · exact hfree.trans (hheard _ hp rfl)
    · obtain ⟨he, hph⟩ := h { s with free := s.free + 1 } hp rfl
      exact hfree.trans (he.trans (peerHeard_acts hc (by rw [hph]; exact hp)))
  · exact hheard s hp rfl

/-- A frame of a kind the part uses: ADDRESS-CLASH, or a peer's (R107, R133). -/
theorem receiveFrame_acts (hc : bringsShares c = true) {station : StationCode} {effect : State → State}
    (h : ∀ u : State, u.bl.phase ≠ .inactive → stationNumber station ≠ u.image.station →
      Acts c r u (effect u) ∧ (effect u).bl.phase = u.bl.phase) : Acts c r s (receiveFrame station effect s) := by
  refine meetFrame_acts fun u hu hcl => ?_
  split
  · exact reportFault_acts _ _ _ fun h => by cases h
  · next hst => exact withPeerFrame_acts hc hu fun v hv hcl' => h v hv (by simpa [State.image, hcl'] using hst)

/-! ### The shares and curtailment -/

theorem setLevel_acts (hc : bringsShares c = true) (l : Level) (h : s.bl ≠ Bank.reset ∨ c = .debounceTimerExpiry) : Acts c r s (setLevel l s) := by
  unfold setLevel
  split
  · exact .refl
  · next hl => exact (ShareAct.level l h hl hc).acts

@[simp] theorem setLevel_cl (l : Level) (s : State) : (setLevel l s).cl = s.cl := by unfold setLevel; split <;> simp
@[simp] theorem setLevel_phase (l : Level) (s : State) : (setLevel l s).bl.phase = s.bl.phase := by
  unfold setLevel; split <;> simp
@[simp] theorem setLevel_collection (l : Level) (s : State) : (setLevel l s).bu.collection = s.bu.collection := by
  unfold setLevel; split <;> simp

theorem countContentError_acts (h : s.bl.phase ≠ .inactive) : Acts c r s (countContentError s) :=
  (ShareAct.budget { s.bu with contentErrors := satSucc Config.count16 s.bu.contentErrors } (.inr (.inl (bl_ne_reset_of_phase h)))
    rfl rfl rfl rfl rfl rfl satSucc_le fun k hk he => ⟨k, hk, he⟩).acts

/-- Marking an attempt's contents as replaced keeps the form of the link. -/
theorem Bank.Formed.markReplaced {b : Bank} (h : b.Formed) (code : BitVec 3) :
    ({ b with attempt := b.attempt.map (Machine.markReplaced code) } : Bank).Formed :=
  ⟨h.1, fun hm => by simp [h.2.1 hm], fun ha => h.2.2 (by simpa using ha)⟩

theorem queueCurtail_acts (l : Level) (h : s.bl ≠ Bank.reset ∨ c = .debounceTimerExpiry) : Acts c r s (queueCurtail l s) :=
  (BankAct.bank { s.bl with curtailSlot := some l, attempt := s.bl.attempt.map (markReplaced 1) } h rfl rfl rfl id
    (fun hf => hf.markReplaced 1) id id).acts

theorem queueAck_acts (a : AckContents) (h : s.bl.phase ≠ .inactive) : Acts c r s (queueAck a s) :=
  (BankAct.bank { s.bl with ackSlot := some a, attempt := s.bl.attempt.map (markReplaced 2) } (.inl (bl_ne_reset_of_phase h))
    rfl rfl rfl id (fun hf => hf.markReplaced 2) id id).acts

theorem takeAnnounce_acts (hc : bringsShares c = true) (station : StationCode) (body : AnnounceBody) (hp : s.bl.phase ≠ .inactive)
    (hst : stationNumber station ≠ s.image.station) :
    Acts c r s (takeAnnounce (stationNumber station) body s) ∧
      (takeAnnounce (stationNumber station) body s).bl.phase = s.bl.phase := by
  unfold takeAnnounce
  split
  · next e he =>
    have hentry := (ShareAct.entry station body e (bl_ne_reset_of_phase hp) hst he hc).acts (c := c) (r := r)
    have hp1 : (commit s { s with bu.view := insertEntry e s.bu.view }).bl.phase = s.bl.phase := by simp
    unfold takeEntry
    dsimp only
    split
    · exact ⟨hentry.trans (setLevel_acts hc _ (.inl (bl_ne_reset_of_phase (by rw [hp1]; exact hp)))), by simp⟩
    · exact ⟨hentry, hp1⟩
  · exact ⟨countContentError_acts hp, rfl⟩

theorem takeCurtail_acts (hc : bringsShares c = true) (station : Nat) (level : Byte) (hp : s.bl.phase ≠ .inactive) :
    Acts c r s (takeCurtail station level s) ∧ (takeCurtail station level s).bl.phase = s.bl.phase := by
  unfold takeCurtail
  split
  · exact ⟨countContentError_acts hp, rfl⟩
  · next l _ =>
    have hp1 : (setLevel l s).bl.phase ≠ .inactive := by rwa [setLevel_phase]
    refine ⟨(setLevel_acts hc l (.inl (bl_ne_reset_of_phase hp))).trans ?_, setLevel_phase l s⟩
    refine .trans (ShareAct.budget { (setLevel l s).bu with frameHeard := true } (.inr (.inl (bl_ne_reset_of_phase hp1)))
      rfl rfl rfl rfl rfl rfl id fun k hk he => ⟨k, hk, he⟩).acts (queueAck_acts _ hp1)

/-- What is left of a collection after an acknowledgement still awaits somebody (R151). -/
theorem acknowledge_expected {station : Nat} {k k' : Collection} (h : acknowledge station k = some k') : k'.expected ≠ [] := by
  unfold acknowledge at h
  split at h
  · cases h
  · next hne => cases h; simpa using hne

theorem takeAck_acts (station : Nat) (level origin : Byte) (hp : s.bl.phase ≠ .inactive) :
    Acts c r s (takeAck station level origin s) ∧ (takeAck station level origin s).bl.phase = s.bl.phase := by
  unfold takeAck
  split
  · split
    · next k _ =>
      split
      · exact ⟨(ShareAct.budget { s.bu with collection := acknowledge station k } (.inr (.inl (bl_ne_reset_of_phase hp)))
          rfl rfl rfl rfl rfl rfl id fun k' hk he => absurd he (acknowledge_expected hk)).acts, rfl⟩
      · exact ⟨.refl, rfl⟩
    · exact ⟨.refl, rfl⟩
  · exact ⟨countContentError_acts hp, rfl⟩

/-- Setting a collection that awaits somebody, or none (R150 to R152). -/
theorem setCollection_acts (k : Option Collection)
    (h : s.released = true ∨ s.bl ≠ Bank.reset ∨ s.bu ≠ Budget.reset ∨ c = .debounceTimerExpiry)
    (hk : ∀ k', k = some k' → k'.expected ≠ []) : Acts c r s { s with bu.collection := k } :=
  (ShareAct.budget { s.bu with collection := k } h rfl rfl rfl rfl rfl rfl id fun k' h' he => absurd he (hk k' h')).acts

theorem adoptLocal_acts (hc : c = .debounceTimerExpiry) : Acts c r s (adoptLocal s) :=
  (setLevel_acts (hc ▸ rfl) s.bu.debounced (.inr hc)).trans
    ((setCollection_acts none (.inr (.inr (.inr hc))) (by simp)).trans (queueCurtail_acts s.bu.debounced (.inr hc)))

end

/-! ### The link's own events -/

section
variable {c : Instr} {s t : State}

theorem execAttemptAbandoned_acts (hc : c = .attemptAbandoned) (h : execAttemptAbandoned s = .next t) : Acts c none s t := by
  simp only [execAttemptAbandoned, Host.Outcome.next.injEq] at h
  subst h
  split
  · next ha =>
    obtain ⟨a, ha⟩ := Option.isSome_iff_exists.1 ha
    split
    · next h8 => exact (BankAct.mute a hc ha h8).acts
    · next h8 =>
      refine (BankAct.bank { s.bl with attempt := none, abandons := satSucc Config.abandonLimit s.bl.abandons }
        (.inl (bl_ne_reset_of_attempt (by simp [ha]))) rfl rfl rfl id ?_ satSucc_le id).acts
      rintro ⟨hm, hs, -⟩
      have hmute : s.bl.mute = false := by
        cases hmu : s.bl.mute
        · rfl
        · rw [hs hmu] at ha; cases ha
      refine ⟨?_, fun _ => rfl, by simp⟩
      rw [hmute]
      exact (decide_eq_false h8).symm
  · exact .refl

theorem frameEnds_complete_acts {r : Option Request} (ha : s.bl.attempt.isSome) :
    Acts c r s { frameEnds s with bl.attempt := none, bl.abandons := 0 } := by
  refine (BankAct.bank { s.bl with line := .recessive 0, attempt := none, abandons := 0 }
    (.inl (bl_ne_reset_of_attempt ha)) rfl rfl rfl id ?_ (fun _ => Nat.zero_le _) id).acts
  rintro ⟨-, hs, -⟩
  refine ⟨?_, fun _ => rfl, by simp⟩
  cases hmu : s.bl.mute
  · simp [Config.abandonLimit]
  · simp [hs hmu] at ha

/-- A collection that has begun awaits somebody (R150). -/
theorem startCollection_expected {s : State} {l : Level} {k : Collection} (h : s.startCollection l = some k) : k.expected ≠ [] := by
  unfold State.startCollection at h
  split at h
  · cases h
  · next hne => cases h; simpa using hne

theorem execTransmitCompletion_acts (hc : c = .transmitCompletion) (h : execTransmitCompletion s = .next t) : Acts c none s t := by
  simp only [execTransmitCompletion, Host.Outcome.next.injEq] at h
  subst h
  split
  · next a ha =>
    have hends := frameEnds_complete_acts (c := c) (r := none) (s := s) (by simp [ha])
    have hne : ({ frameEnds s with bl.attempt := none, bl.abandons := 0 } : State).bl ≠ Bank.reset :=
      fun h => by have := congrArg (·.line) h; cases this
    unfold completeFrame
    split
    · next b hb => exact (BankAct.complete b a hc ha hb).acts
    · next l _ =>
      split
      · exact hends
      · refine hends.trans (.trans (BankAct.bank
          { ({ frameEnds s with bl.attempt := none, bl.abandons := 0 } : State).bl with curtailSlot := none } (.inl hne)
          rfl rfl rfl id id id id).acts ?_)
        exact setCollection_acts _ (.inr (.inl fun h => hne (by have := congrArg (·.line) h; cases this)))
          fun k hk => startCollection_expected hk
    · split
      · exact hends
      · exact hends.trans (BankAct.bank
          { ({ frameEnds s with bl.attempt := none, bl.abandons := 0 } : State).bl with ackSlot := none } (.inl hne)
          rfl rfl rfl id id id id).acts
  · exact .refl

end

end Sys2Proof.Machine
end

section
/-!
SUPPORT. The last chains: zones and samples, requests and the port, timers and the loader; and that every command is a chain of actions.
-/
namespace Sys2Proof.Machine

open Relation

/-! ### Zones and samples -/

section
variable {c : Instr} {r : Option Request} {s : State}

theorem setZone_acts (z : Zone) (m : ZoneMeasurement) (h : s.released = true ∨ s.zm ≠ Measurement.reset) :
    Acts c r s (setZone z m s) :=
  (ZoneAct.measure { s.zm with zones := s.zm.zones.set z m } h id id).acts

theorem channelLost_acts (z : Zone) (k : ChannelKind) (m : ZoneMeasurement)
    (h : s.released = true ∨ s.zm ≠ Measurement.reset) : Acts c r s (channelLost z k m s) := by
  unfold channelLost
  split
  · split
    · exact setZone_acts z _ h
    · split
      · exact (setZone_acts z _ h).trans (reportFault_acts _ _ _ fun h => by cases h)
      · exact (setZone_acts z _ h).trans (reportFault_acts _ _ _ fun h => by cases h)
      · exact setZone_acts z _ h
  · exact setZone_acts z _ h

theorem takeSample_acts (z : Zone) (k : ChannelKind) (st : SampleStatus) (v : Int) (hc : GivesOrder c)
    (h : s.released = true) : Acts c r s (takeSample z k st v s) := by
  unfold takeSample
  split
  · unfold goodSample
    dsimp only
    split
    · split
      · unfold enterOvertemp
        split
        · exact setZone_acts z _ (.inl h)
        · exact (setZone_acts z _ (.inl h)).trans (reportFault_acts _ _ _ fun _ => hc)
      · exact setZone_acts z _ (.inl h)
    · exact setZone_acts z _ (.inl h)
  · exact setZone_acts z _ (.inl h)

theorem takeReadback_acts (l : GasLine) (st : SampleStatus) (v : Int) (h : s.released = true) :
    Acts c r s (takeReadback l st v s) := by
  refine (GasAct.lines _ (.inl h) (setLine_commanded ?_)).acts
  split <;> rfl

theorem takeRecord_acts (o : FieldOutput) (hc : GivesOrder c) (h : s.released = true) : Acts c r s (takeRecord s o) := by
  have hcount : Acts c r s (countCheckError s) :=
    (ZoneAct.measure { s.zm with checkErrors := satSucc Config.count16 s.zm.checkErrors } (.inl h) satSucc_le id).acts
  unfold takeRecord
  split
  · exact hcount
  · split
    · exact hcount
    · split
      · exact takeSample_acts _ _ _ _ hc h
      · exact takeReadback_acts _ _ _ h
      · exact (ZoneAct.measure { s.zm with ignored := satSucc Config.count16 s.zm.ignored } (.inl h) id satSucc_le).acts

@[simp] theorem setZone_cl (z : Zone) (m : ZoneMeasurement) (s : State) : (setZone z m s).cl = s.cl := rfl

@[simp] theorem takeRecord_cl (s : State) (o : FieldOutput) : (takeRecord s o).cl = s.cl := by
  unfold takeRecord takeSample goodSample enterOvertemp
  dsimp only
  split
  · rfl
  · split
    · rfl
    · split
      · split
        · split
          · split
            · split <;> simp
            · rfl
          · rfl
        · rfl
      · rfl
      · rfl

theorem takeRecords_acts (os : List FieldOutput) (hc : GivesOrder c) (h : s.released = true) :
    Acts c r s (os.foldl takeRecord s) := by
  induction os generalizing s with
  | nil => exact .refl
  | cons o os ih => exact (takeRecord_acts o hc h).trans (ih (by simpa [State.released] using h))

theorem receiveField_acts (bytes : List Byte) (hc : GivesOrder c) (h : s.released = true) :
    Acts c r s (receiveField bytes s) :=
  .trans (ZoneAct.measure { s.zm with rx := (fieldFeed s.zm.rx bytes).1 } (.inl h) id id).acts (takeRecords_acts _ hc h)

/-- A valid channel is not as reset left it. -/
theorem zm_ne_reset_of_valid {z : Zone} {k : ChannelKind} (h : ((s.zoneM z).channel k).valid = true) :
    s.zm ≠ Measurement.reset := by
  intro h'
  rw [State.zoneM, h'] at h
  cases z <;> cases k <;> cases h

/-- A hold timer that runs is not as reset left it. -/
theorem zm_ne_reset_of_holding {z : Zone} (h : (s.zoneM z).holdTimer.active = true) : s.zm ≠ Measurement.reset := by
  intro h'
  rw [State.zoneM, h'] at h
  cases z <;> cases h

/-! ### Requests -/

theorem validateStaging_acts (hc : bringsShares c = true ∨ r = some .configDone) (h : s.released = false) (hr : s.resetHeld = none ∨ s.cl.startup ≠ .loading) :
    Acts c r s (validateStaging s) := by
  unfold validateStaging
  split
  · exact (LoadAct.release h hr hc).acts
  · exact .trans (LoadAct.refuse h hr).acts (reportFault_acts _ _ _ fun h => by cases h)

/-- A part that takes configuration over the port is before its release, and not in LOADING. -/
theorem unreleased_of_configurable (h : s.configurable = true) : s.released = false ∧ s.cl.startup ≠ .loading := by
  rcases (configurable_iff s).1 h with h | h <;> simp [State.released, h]

theorem serveStepAppend_acts (body : List Byte) (hr : s.released = true) :
    Acts c (some .stepAppend) s (serveStepAppend body s).state := by
  unfold serveStepAppend
  split
  · exact .refl
  · next hab =>
    split
    · exact .refl
    · next raw _ =>
      split
      · exact .refl
      · split
        · exact .refl
        · next hq =>
          have hq : s.rs.queue.length < Config.queueCapacity := Nat.not_le.1 hq
          by_cases hst : s.rs.run = .starved
          · obtain ⟨n, rest, hn⟩ : ∃ n rest, s.rs.queue ++ [storeStep s.image raw] = n :: rest :=
              List.exists_cons_of_ne_nil (by simp)
            have happend : appendRecord (storeStep s.image raw) s = stepStart n { s with rs.queue := rest } := by
              rw [appendRecord, if_pos hst, startHead_of_queue hn]
            show Acts c _ s (appendRecord (storeStep s.image raw) s)
            rw [happend]
            exact (RunAct.appendStart raw n rest rfl hr hst hq hn).acts
          · show Acts c _ s (appendRecord (storeStep s.image raw) s)
            rw [appendRecord_of_ne_starved _ _ hst]
            exact (RunAct.append raw rfl hr hst hab hq).acts

theorem serveRunStart_acts (hr : s.released = true) : Acts c (some .runStart) s (serveRunStart s).state := by
  unfold serveRunStart
  split
  · exact .refl
  · next hidle =>
    split
    · exact .refl
    · split
      · exact .refl
      · next hq =>
        obtain ⟨n, rest, hn⟩ := List.exists_cons_of_ne_nil (by simpa using hq : s.rs.queue ≠ [])
        dsimp only [answer]
        rw [startHead_of_queue (r := n) (rest := rest)]
        · exact (RunAct.start n rest rfl hr (by simpa using hidle) hn).acts
        · exact hn

theorem serveRunResume_acts : Acts c (some .runResume) s (serveRunResume s).state := by
  unfold serveRunResume
  split
  · next hh hp =>
    split
    · next hq => exact (RunAct.resumeStarved rfl hh hp (by simpa using hq)).acts
    · next hq =>
      obtain ⟨n, rest, hn⟩ := List.exists_cons_of_ne_nil (by simpa using hq : s.rs.queue ≠ [])
      dsimp only [answer]
      rw [startHead_of_queue (s := leaveHeld .running s) (by simpa [leaveHeld] using hn)]
      exact (RunAct.resumeStart n rest rfl hh hp hn).acts
  · next hh hp => exact (RunAct.resume rfl hh fun h => hp h).acts
  · exact .refl

/-- Whatever an owner makes of a request that reaches it is a chain of actions (R175). -/
theorem serveOwner_acts (q : Request) (body : List Byte) (hr : s.released = true ∨ q.early = true) :
    Acts c (some q) s (serveOwner q body s).state := by
  cases q with
  | statusRead | zoneRead | viewRead | faultRead => exact .refl
  | eventRead => exact (PortAct.readEvents rfl).acts
  | faultClear =>
    have hr : s.released = true := by simpa [Request.early] using hr
    unfold serveOwner serveFaultClear
    dsimp only
    split
    · exact .refl
    · next hab => exact (FaultAct.clear rfl hr hab).acts
  | stepAppend => exact serveStepAppend_acts body (by simpa [Request.early] using hr)
  | queueClear =>
    have hr : s.released = true := by simpa [Request.early] using hr
    unfold serveOwner serveQueueClear
    dsimp only
    split
    · next hrun => exact (RunAct.clearQueue rfl (.inl hrun) hr).acts
    · next hrun => exact (RunAct.clearQueue rfl (.inr hrun) hr).acts
    all_goals exact .refl
  | runStart => exact serveRunStart_acts (by simpa [Request.early] using hr)
  | runHold =>
    unfold serveOwner serveRunHold
    dsimp only
    split
    · next hrun => exact (RunAct.hold (.inl hrun)).acts
    · next hrun => exact (RunAct.hold (.inr hrun)).acts
    all_goals exact .refl
  | runResume => exact serveRunResume_acts
  | runAbort =>
    have habort (h : s.rs.run.abortable = true) : Acts c (some .runAbort) s (enterAborting s) :=
      enterAborting_acts s.rs.abortOrdered ⟨h, .inr (.inr rfl)⟩ (.inl rfl)
    unfold serveOwner serveRunAbort
    dsimp only
    split
    · next hrun => exact habort (by rw [hrun]; rfl)
    · next hrun => exact habort (by rw [hrun]; rfl)
    · next hrun => exact habort (by rw [hrun]; rfl)
    all_goals exact .refl
  | boatMove =>
    have hr : s.released = true := by simpa [Request.early] using hr
    unfold serveOwner serveBoatMove
    dsimp only
    split
    · exact .refl
    · next hidle => exact (BoatAct.move _ rfl hr (by simpa using hidle)).acts
  | configWrite =>
    unfold serveOwner serveConfigWrite
    dsimp only
    split
    · exact .refl
    · next hcfg =>
      split
      · exact .refl
      · next hfit =>
        refine (LoadAct.stage _ (unreleased_of_configurable (by simpa using hcfg)).1 fun h64 => ?_).acts
        rw [length_writeStaging (by omega), h64]
  | configDone =>
    have hvalid (h : s.configurable = true) : Acts c (some .configDone) s (validateStaging s) :=
      validateStaging_acts (.inr rfl) (unreleased_of_configurable h).1 (.inr (unreleased_of_configurable h).2)
    unfold serveOwner serveConfigDone
    dsimp only
    split
    · exact .refl
    · next hcfg => split <;> exact hvalid (by simpa using hcfg)

/-- LP's checks of an entry, and what its owner makes of it, are a chain of actions (R175). -/
theorem serveRequest_acts (kind : Byte) (body : List Byte) (s : State) :
    ∃ r, Acts c r s (serveRequest kind body s).state := by
  unfold serveRequest
  split
  · exact ⟨none, .refl⟩
  · next q _ =>
    split
    · exact ⟨none, .refl⟩
    · next hearly =>
      split
      · exact ⟨none, .refl⟩
      · refine ⟨some q, serveOwner_acts q body ?_⟩
        cases hrel : s.released
        · simpa [hrel] using hearly
        · exact .inl rfl

end

/-! ### The port -/

section
variable {c : Instr} {s : State}

theorem PortAct.does {r : Option Request} {s t : State} (h : PortAct c r s t) : Does c s t := h.acts.does

theorem serveEntry_does (e : LpEntry) (s : State) : Does c s (serveEntry e s) := by
  unfold serveEntry
  split
  · exact (PortAct.reply (r := none) _).does
  · exact (PortAct.reply (r := none) _).does
  · next kind body =>
    obtain ⟨r, h⟩ := serveRequest_acts (c := c) kind body s
    exact h.does.trans (PortAct.reply (r := none) _).does

theorem offerEntry_does (e : LpEntry) (s : State) : Does c s (offerEntry e s) := by
  unfold offerEntry
  split
  · exact serveEntry_does e s
  · next hr _ => exact (PortAct.wait (r := none) e (by simp [hr])).does
  · exact (PortAct.overrun (r := none)).does

theorem formEntry_does (e : LpEntry) (s : State) : Does c s (formEntry s e) := by
  unfold formEntry
  split
  · exact (PortAct.lineError (r := none)).does.trans (offerEntry_does _ _)
  · exact offerEntry_does _ _

theorem formEntries_does (es : List LpEntry) (s : State) : Does c s (es.foldl formEntry s) := by
  induction es generalizing s with
  | nil => exact .refl
  | cons e es ih => exact (formEntry_does e s).trans (ih _)

theorem receiveChars_does (chars : List LpChar) (s : State) : Does c s (receiveChars chars s) := by
  refine .trans (PortAct.hear (r := none) _ _ fun _ hskip => ?_).does (formEntries_does _ _)
  rw [hskip, lpFeed_skipping]

theorem passGap_does (h : s.resetHeld.isSome = false) : Does c s (passGap s) := by
  unfold passGap
  split
  · exact .refl
  · exact (PortAct.hear (r := none) .hunting s.lp.gap (by simp [h])).does
  · exact .trans (PortAct.hear (r := none) .hunting s.lp.gap (by simp [h])).does (formEntry_does _ _)

theorem endReply_does (hc : c = .replyEnd) : Does c s (endReply s) := by
  have hreplied : Does c s { s with lp.reply := none, lp.replyTimer := .stopped, lp.slot := none } :=
    (PortAct.replied (r := none) hc).does
  unfold endReply
  split
  · exact .refl
  · split
    · next hs => rwa [← hs] at hreplied
    · exact hreplied.trans (serveEntry_does _ _)

theorem beforeOrder_does {f : State → State} (h : meetsOrder c = true) (hf : Does c s (f s)) :
    Does c s (beforeOrder f s) := by
  unfold beforeOrder
  split
  · exact hf.trans (takeWaitingOrder_acts (r := none) (.inr h)).does
  · exact hf

end

/-! ### What no action changes, and what only a reset command does -/

section
variable {c : Instr} {r : Option Request} {s t : State}

/-- What an action of the run keeps. -/
theorem RunAct.besideRun (h : RunAct c r s t) : t.besideRun = s.besideRun := by
  cases h with
  | abortAtOnce b _ _ => rw [enterIdle_besideRun, beginAbort_besideRun]; rfl
  | hold | endAbort | abort | appendStart | start | resumeStarved | evaluate => simp <;> rfl
  | resumeStart n rest => rw [stepStart_besideRun]; exact leaveHeld_besideRun .running s
  | resume =>
    have h : (restartTimeout (leaveHeld .running s)).besideRun = (leaveHeld .running s).besideRun := by
      unfold restartTimeout; split <;> rfl
    rw [evaluate_besideRun, h, leaveHeld_besideRun]
  | endPurge | order | dropOrder | tick | timeOut | dwell | append | clearQueue => rfl

end

end Sys2Proof.Machine
end

section
/-!
SUPPORT. The frame of each kind of action: the blocks that it may change, reactions apart, and that every other one stays.
-/
namespace Sys2Proof.Machine

open Relation

section
variable {c : Instr} {r : Option Request} {s t : State}

/-- A fault, and the clearing of the log, touch the log, the zones and the pending events. -/
theorem FaultAct.frame (h : FaultAct r s t) :
    t = { s with fl := t.fl, lp := { s.lp with events := t.lp.events }, zm := { s.zm with zones := t.zm.zones } } := by
  cases h <;> rfl

theorem evaluateDroop_frame (s : State) :
    (evaluateDroop s).withoutReactions = { s.withoutReactions with bd := (evaluateDroop s).withoutReactions.bd } := by
  rcases evaluateDroop_cases s with h | ⟨f, w, d, h⟩ <;> rw [h] <;> rfl

theorem testArrival_frame (s : State) :
    (testArrival s).withoutReactions = { s.withoutReactions with bd := (testArrival s).withoutReactions.bd } := by
  rcases testArrival_cases s with h | ⟨-, h⟩ <;> rw [h] <;> rfl

/-- Taking a target changes BD alone, reactions apart (R87). -/
theorem takeTarget_frame (m : BoatPart) (s : State) :
    (takeTarget m s).withoutReactions = { s.withoutReactions with bd := (takeTarget m s).withoutReactions.bd } := by
  unfold takeTarget
  dsimp only
  generalize hs1 : ({ s with
    bd.move := some m
    bd.bdir := if s.bd.c < m.target then true else if m.target < s.bd.c then false else s.bd.bdir
    bd.droopWait := false
    bd.factor := .full } : State) = s1
  have h1 : s1.withoutReactions = { s.withoutReactions with bd := s1.withoutReactions.bd } := by rw [← hs1]; rfl
  have h2 : (testArrival (evaluateDroop s1)).withoutReactions =
      { s.withoutReactions with bd := (testArrival (evaluateDroop s1)).withoutReactions.bd } := by
    rw [testArrival_frame, evaluateDroop_frame, h1]
  calc _ = { (testArrival (evaluateDroop s1)).withoutReactions with
              bd := { (testArrival (evaluateDroop s1)).bd with pulse := none } } := rfl
    _ = _ := by rw [h2]; rfl

theorem stopMove_frame (s : State) :
    (stopMove s).withoutReactions = { s.withoutReactions with bd := (stopMove s).withoutReactions.bd } := by
  unfold stopMove; split <;> rfl

/-- An action of the boat changes BD and the pins alone, reactions apart. -/
theorem BoatAct.frame (h : BoatAct c r s t) :
    t.withoutReactions = { s.withoutReactions with bd := t.withoutReactions.bd, pins := t.pins } := by
  cases h with
  | move raw => rw [commit_withoutReactions, takeTarget_frame, commit_pins, show (takeTarget _ s).pins = s.pins from
      congrArg (·.pins) (takeTarget_frame _ s)]; rfl
  | stop s0 => rw [commit_withoutReactions, stopMove_frame, commit_pins, show (stopMove s).pins = s.pins from
      congrArg (·.pins) (stopMove_frame s)]; rfl
  | droop => rw [commit_withoutReactions, evaluateDroop_frame, commit_pins, show (evaluateDroop s).pins = s.pins from
      congrArg (·.pins) (evaluateDroop_frame s)]; rfl
  | arrive => rw [commit_withoutReactions, testArrival_frame, commit_pins, show (testArrival s).pins = s.pins from
      congrArg (·.pins) (testArrival_frame s)]; rfl
  | count | closeGate | openGate | pulse | rebase => rw [commit_withoutReactions, commit_pins]; rfl
  | pins | reclear | marks | lastMark | phase => rfl

/-- An action of the gas lines changes GC, the purge floor and want, and the SEAL pin alone, reactions apart. -/
theorem GasAct.frame (h : GasAct c s t) :
    t.withoutReactions = { s.withoutReactions with
      gc := t.withoutReactions.gc, bu := { s.withoutReactions.bu with purge := t.bu.purge }
      pins := { s.pins with sealed := t.pins.sealed } } := by
  cases h with
  | sealPin b => rw [commit_withoutReactions, commit_pins, commit_bu_purge]; rfl
  | hand => rw [handPurge, commit_withoutReactions, commit_pins, commit_bu_purge]; rfl
  | lines | accumulate | phase | repeated | send => rfl

theorem rampAndDrive_frame (s : State) :
    (rampAndDrive s).withoutReactions = { s.withoutReactions with zc := (rampAndDrive s).withoutReactions.zc } := by
  unfold rampAndDrive; dsimp only; split <;> rfl

theorem demandStage_withoutReactions (s : State) :
    (demandStage s).withoutReactions = (handDemand s).withoutReactions :=
  calc (demandStage s).withoutReactions
    _ = (commit s (handDemand s)).withoutReactions := rfl
    _ = (handDemand s).withoutReactions := commit_withoutReactions _ _

/-- A ZC period changes ZC and the heater floor and want alone, reactions apart (R50). -/
theorem zcStages_frame (s : State) :
    (zcStages s).withoutReactions = { s.withoutReactions with
      zc := (zcStages s).withoutReactions.zc, bu := { s.withoutReactions.bu with heater := (zcStages s).bu.heater } } := by
  unfold zcStages
  generalize hs1 : ({ s with zc.phase := .running Config.periodMs } : State) = s1
  have h1 : s1.withoutReactions = { s.withoutReactions with zc := s1.withoutReactions.zc } := by rw [← hs1]; rfl
  have h2 := rampAndDrive_frame s1
  generalize rampAndDrive s1 = s2 at h2
  have h3 : (demandStage s2).withoutReactions = { s2.withoutReactions with
      zc := (demandStage s2).withoutReactions.zc, bu := { s2.withoutReactions.bu with heater := (demandStage s2).bu.heater } } := by
    rw [demandStage_withoutReactions, show (demandStage s2).bu.heater = (handDemand s2).bu.heater from
      congrArg (·.bu.heater) (demandStage_withoutReactions s2)]
    rfl
  generalize demandStage s2 = s3 at h3
  calc (settleStage s3).withoutReactions
    _ = { s3.withoutReactions with zc := (settleStage s3).withoutReactions.zc } := rfl
    _ = _ := by rw [h3, h2, h1]; rfl

/-- An action of the zones changes ZM, ZC and the heater floor and want alone, reactions apart. -/
theorem ZoneAct.frame (h : ZoneAct c s t) :
    t.withoutReactions = { s.withoutReactions with
      zm := t.zm, zc := t.withoutReactions.zc, bu := { s.withoutReactions.bu with heater := t.bu.heater } } := by
  cases h with
  | period =>
    rw [zcStages_frame, show (zcStages s).zm = s.zm from congrArg (·.zm) (zcStages_frame s)]; rfl
  | measure | window => rfl

/-- Entering MUTE is a note fault and the report LINK (R141). -/
theorem enterMute_eq (s : State) : enterMute s = raiseEvent .link (takeFault .linkMute .none .absent
    { s with bl.mute := true, bl.muteTimer := .running Config.muteMs }) := rfl

/-- An action of the bank line changes BL, the fault log and the start-up state alone, reactions apart. -/
theorem BankAct.frame (h : BankAct c s t) :
    t.withoutReactions = { s.withoutReactions with
      bl := t.withoutReactions.bl, fl := t.fl, cl := { s.cl with startup := t.cl.startup } } := by
  cases h with
  | complete b a =>
    rw [completeAnnounce, raiseCheck_withoutReactions, commit_withoutReactions, raiseCheck_fl, raiseCheck_cl, commit_fl,
      commit_cl]; rfl
  | bank | mute | unmute | join => rfl

/-- An action of the shares changes BU and BL alone, reactions apart. -/
theorem ShareAct.frame (h : ShareAct c s t) :
    t.withoutReactions = { s.withoutReactions with bu := t.withoutReactions.bu, bl := t.withoutReactions.bl } := by
  cases h with
  | level | hear | isolate => rw [raiseEvent_withoutReactions, commit_withoutReactions]; rfl
  | entry | stale | remove => rw [commit_withoutReactions]; rfl
  | budget => rfl

/-- An action of the port changes LP alone. -/
theorem PortAct.frame (h : PortAct c r s t) : t = { s with lp := t.lp } := by cases h <;> rfl

@[simp] theorem release_pending (s : State) : (release s).pending = s.pending := by
  rw [release, commit_pending]; simp only [releaseBU]; split <;> rfl
@[simp] theorem release_fuses (s : State) : (release s).fuses = s.fuses := by
  rw [release, commit_fuses]; simp only [releaseBU]; split <;> rfl
@[simp] theorem release_resetHeld (s : State) : (release s).resetHeld = s.resetHeld := by
  rw [release, commit_resetHeld]; simp only [releaseBU]; split <;> rfl

/-- No action touches the waiting commands or the fuses, and only a reset command the reset itself. -/
theorem Act.outside (h : Act c r s t) : t.pending = s.pending ∧ t.fuses = s.fuses ∧
    (c ≠ .powerOnReset → c ≠ .warmReset → (∀ x y, c ≠ .resetEnd x y) → t.resetHeld = s.resetHeld) := by
  have hframe {f g : State → State} (hf : f t = g s)
      (hft : (f t).pending = t.pending ∧ (f t).fuses = t.fuses ∧ (f t).resetHeld = t.resetHeld)
      (hgs : (g s).pending = s.pending ∧ (g s).fuses = s.fuses ∧ (g s).resetHeld = s.resetHeld) :
      t.pending = s.pending ∧ t.fuses = s.fuses ∧
        (c ≠ .powerOnReset → c ≠ .warmReset → (∀ x y, c ≠ .resetEnd x y) → t.resetHeld = s.resetHeld) := by
    rw [hf] at hft
    exact ⟨hft.1.symm.trans hgs.1, hft.2.1.symm.trans hgs.2.1, fun _ _ _ => hft.2.2.symm.trans hgs.2.2⟩
  cases h with
  | run h => exact hframe (f := State.besideRun) (g := State.besideRun) h.besideRun ⟨rfl, rfl, rfl⟩ ⟨rfl, rfl, rfl⟩
  | fault h => rw [h.frame]; exact ⟨rfl, rfl, fun _ _ _ => rfl⟩
  | boat h =>
    have := h.frame
    exact ⟨congrArg (·.pending) this, congrArg (·.fuses) this, fun _ _ _ => congrArg (·.resetHeld) this⟩
  | gas h =>
    have := h.frame
    exact ⟨congrArg (·.pending) this, congrArg (·.fuses) this, fun _ _ _ => congrArg (·.resetHeld) this⟩
  | zone h =>
    have := h.frame
    exact ⟨congrArg (·.pending) this, congrArg (·.fuses) this, fun _ _ _ => congrArg (·.resetHeld) this⟩
  | bank h =>
    have := h.frame
    exact ⟨congrArg (·.pending) this, congrArg (·.fuses) this, fun _ _ _ => congrArg (·.resetHeld) this⟩
  | share h =>
    have := h.frame
    exact ⟨congrArg (·.pending) this, congrArg (·.fuses) this, fun _ _ _ => congrArg (·.resetHeld) this⟩
  | port h => rw [h.frame]; exact ⟨rfl, rfl, fun _ _ _ => rfl⟩
  | load h =>
    cases h with
    | powerOn hc => exact ⟨rfl, rfl, fun h => absurd hc h⟩
    | warm hc => exact ⟨rfl, rfl, fun _ h => absurd hc h⟩
    | endReset x y hc => exact ⟨rfl, rfl, fun _ _ h => absurd hc (h x y)⟩
    | release => exact ⟨release_pending s, release_fuses s, fun _ _ _ => release_resetHeld s⟩
    | stage | refuse => exact ⟨rfl, rfl, fun _ _ _ => rfl⟩
  | choose n => exact ⟨rfl, rfl, fun _ _ _ => rfl⟩

/-- What every action of a command keeps, the command keeps. -/
theorem Does.keeps {P : State → Prop} (h : Does c s t) (hP : ∀ r s t, Act c r s t → P s → P t) (hs : P s) : P t := by
  induction h with
  | refl => exact hs
  | tail _ hact ih => obtain ⟨r, hact⟩ := hact; exact hP r _ _ hact ih

/-- What every action in the service of `r` keeps, a chain of them keeps. -/
theorem Acts.keeps {P : State → Prop} (h : Acts c r s t) (hP : ∀ s t, Act c r s t → P s → P t) (hs : P s) : P t := by
  induction h with
  | refl => exact hs
  | tail _ hact ih => exact hP _ _ hact ih

end

/-! ### Every command -/

theorem setPins_acts {c : Instr} {r : Option Request} {s : State} (p : Pins) (h : p.sealed = s.pins.sealed)
    (hl : p.loadclr = s.pins.loadclr ∨ p.loadclr = true ∨ s.released = false) : Acts c r s { s with pins := p } :=
  (BoatAct.pins p h hl).acts

/-- The commands that come as characters on LPRX, and the end of a reply. -/
def onPort : Instr → Bool
  | .configWrite _ | .configDone _ | .statusRead _ | .zoneRead _ | .viewRead _ | .eventRead _ | .faultRead _ | .faultClear _
  | .stepAppend _ | .queueClear _ | .runStart _ | .runHold _ | .runResume _ | .runAbort _ | .boatMove _ | .lineError _
  | .lpGapTimeout _ | .badCheckFrame _ _ _ | .unknownKindRequest _ _ | .replyEnd => true
  | _ => false

/-- A command of the port is a chain of actions. -/
theorem exec_does_of_onPort {c : Instr} {s t : State} (hc : onPort c = true) (h : exec c s = .next t) : Does c s t := by
  cases c with
  | configWrite _ | configDone _ | statusRead _ | zoneRead _ | viewRead _ | eventRead _ | faultRead _ | stepAppend _
  | queueClear _ | runStart _ | runHold _ | runAbort _ | boatMove _ | lineError _ | badCheckFrame _ _ _
  | unknownKindRequest _ _ => cases h; exact receiveChars_does _ s
  | faultClear _ | runResume _ => cases h; exact beforeOrder_does rfl (receiveChars_does _ s)
  | replyEnd => cases h; exact beforeOrder_does rfl (endReply_does rfl)
  | lpGapTimeout chars =>
    cases h
    split
    · exact .refl
    · next hr =>
      have hchars := receiveChars_does (c := .lpGapTimeout chars) chars s
      have hheld : (receiveChars chars s).resetHeld = s.resetHeld :=
        hchars.keeps (P := (·.resetHeld = s.resetHeld))
          (fun r s1 t1 h h1 => (h.outside.2.2 (by simp) (by simp) (by simp)).trans h1) rfl
      exact hchars.trans (passGap_does (by rw [hheld]; simpa using hr))
  | _ => cases hc

section
variable {c : Instr} {s t : State}

/-- A command that is not of the port is a chain of actions in which no request is served. -/
theorem exec_acts_of_not_onPort (hc : onPort c = false) (h : exec c s = .next t) : Acts c none s t := by
  cases c with
  | powerOnReset => cases h; exact (LoadAct.powerOn rfl).acts
  | warmReset =>
    cases h
    split
    · exact .refl
    · next hr => exact (LoadAct.warm rfl (by simpa using hr)).acts
  | resetEnd x y =>
    cases h
    split
    · next hr => exact (LoadAct.endReset x y rfl hr).acts
    · exact .refl
  | serialMemoryReadEnd bytes =>
    cases h
    split
    · next hr =>
      obtain ⟨hl, hn, -⟩ : s.cl.startup = .loading ∧ s.resetHeld = none ∧ s.cl.cfgsrc = .memory := by
        simpa [State.readingMemory] using hr
      have hrel : s.released = false := by simp [State.released, hl]
      refine .trans (LoadAct.stage ((bytes ++ List.replicate 64 0).take 64) hrel fun _ => ?_).acts ?_
      · simp
      · exact validateStaging_acts (.inl rfl) hrel (.inl hn)
    · exact .refl
  | dwellExpiry =>
    cases h
    refine beforeOrder_acts rfl ?_
    unfold dwellExpires
    split
    · next n hn => exact .trans (RunAct.dwell n rfl hn).acts RunAct.evaluate.acts
    · exact .refl
  | stepTimeoutExpiry =>
    cases h
    split
    · split
      · next hrun => exact .trans (RunAct.timeOut hrun.1).acts (reportFault_acts _ _ _ fun h => by cases h)
      · exact .refl
    · exact .refl
  | abortTimeout =>
    cases h
    split
    · next hrun =>
      have hfault : reportFault .abortIncomplete .none (.number s.gc.acc) s =
          takeFault .abortIncomplete .none (.number s.gc.acc) s := rfl
      rw [hfault]
      exact .trans (FaultAct.take _ _ _).acts (RunAct.endAbort (s := takeFault .abortIncomplete .none (.number s.gc.acc) s)
        hrun.1 (.inl ⟨rfl, hrun.2⟩)).acts
    · exact .refl
  | runClockTick =>
    cases h
    split
    · exact .refl
    · next hrun => exact (RunAct.tick hrun).acts
  | sampleRecord b1 b2 b3 b4 =>
    cases h
    split
    · next hr => exact receiveField_acts _ (.sample b1 b2 b3 b4) hr
    · exact .refl
  | channelTimerExpiry z k =>
    cases h
    dsimp only
    split
    · next hv =>
      have hne := zm_ne_reset_of_valid hv
      split
      · exact channelLost_acts z k _ (.inr hne)
      · exact setZone_acts z _ (.inr hne)
    · exact .refl
  | holdTimerExpiry z =>
    cases h
    dsimp only
    split
    · next hh =>
      refine (setZone_acts z _ (.inr (zm_ne_reset_of_holding hh.2))).trans (reportFault_acts _ _ _ fun h => ?_)
      obtain rfl : z = .z3 := by simpa [faultClass] using h
      exact .zoneLost
    · exact .refl
  | zmPeriod =>
    cases h
    split
    · next hr =>
      exact (ZoneAct.measure { s.zm with
        zones := PerZone.build fun z => zoneAtPeriod (s.used z) (s.zoneM z), phase := .running Config.periodMs } (.inl hr) id id).acts
    · exact .refl
  | zcPeriod => cases h; exact beforeOrder_acts rfl (zcPasses_acts rfl)
  | heaterWindowStart z =>
    cases h
    split
    · next hr => exact (ZoneAct.window z _ (.inl hr)).acts
    · exact .refl
  | heaterOnTimeEnd z =>
    cases h
    split
    · next t ht =>
      split
      · refine (ZoneAct.window z _ (.inr fun h => ?_)).acts
        rw [State.zoneC, h] at ht
        cases z <;> cases ht
      · exact .refl
    · exact .refl
  | gcPeriod => cases h; exact beforeOrder_acts rfl (gcPasses_acts rfl)
  | readbackTimerExpiry l =>
    cases h
    split
    · next hv =>
      refine (GasAct.lines (s.gc.lines.set l { s.line l with timer := .stopped }) (.inr fun h => ?_) (setLine_commanded rfl)).acts
      rw [State.line, h] at hv
      cases l <;> cases hv
    · exact .refl
  | setpointRecordSend =>
    cases h
    split
    · exact .refl
    · next l rest hq => exact (GasAct.send l rest rfl hq).acts
  | repeatTimerExpiry l =>
    cases h
    split
    · next ha => exact (GasAct.repeated l ha).acts
    · exact .refl
  | sealDeassert =>
    cases h
    split
    · split
      · exact (GasAct.sealPin false).acts.trans (reportFault_acts _ _ _ fun h => by cases h)
      · exact (GasAct.sealPin false).acts
    · exact .refl
  | sealAssert => cases h; exact (GasAct.sealPin true).acts
  | encoderCount line =>
    cases h
    split
    · next hr => exact (BoatAct.count line rfl hr).acts
    · cases line <;> exact setPins_acts _ (by rfl) (.inl (by rfl))
  | stepPulse =>
    cases h
    split
    · next m hm =>
      split
      · next hp => exact (BoatAct.pulse m rfl hm hp).acts
      · exact .refl
    · exact .refl
  | loadclrAssert =>
    cases h
    split
    · next hr => exact (BoatAct.reclear hr.1 hr.2).acts
    · exact setPins_acts _ (by rfl) (.inr (.inl (by rfl)))
  | loadclrDeassert =>
    cases h
    split
    · next hr => exact (BoatAct.closeGate hr).acts
    · next hr => exact setPins_acts _ (by rfl) (.inr (.inr (by simpa using hr)))
  | reclearTimerExpiry =>
    cases h
    split
    · next hg => exact (BoatAct.openGate hg.1).acts
    · exact .refl
  | markCapture =>
    cases h
    have hpin : Acts .markCapture none s { s with pins.refm := !s.pins.refm } :=
      setPins_acts _ (by rfl) (.inl (by rfl))
    split
    · next hr =>
      refine hpin.trans ?_
      unfold captureMark
      dsimp only
      split
      · next hm =>
        refine .single (.boat (.marks _ hr fun _ => ?_))
        simpa using hm
      · exact reportFault_acts _ _ _ fun h => by cases h
    · exact hpin
  | bdEvaluation => cases h; exact beforeOrder_acts rfl (bdEvaluates_acts rfl)
  | announceReceived station body =>
    cases h; exact receiveFrame_acts rfl fun u hu hst => takeAnnounce_acts rfl station body hu hst
  | curtailReceived station level =>
    cases h; exact receiveFrame_acts rfl fun u hu _ => takeCurtail_acts rfl _ level hu
  | curtailAckReceived station level origin =>
    cases h; exact receiveFrame_acts rfl fun u hu _ => takeAck_acts _ level origin hu
  | bankFrameError f =>
    cases h
    split
    · refine meetFrame_acts fun u hu _ => (BankAct.bank { u.bl with rxErrors := satSucc Config.count16 u.bl.rxErrors }
        (.inl (bl_ne_reset_of_phase hu)) rfl rfl rfl id id id satSucc_le).acts
    · exact .refl
  | entryStale n => cases h; exact (ShareAct.stale n rfl).acts
  | entryRemoved n => cases h; exact (ShareAct.remove n rfl).acts
  | lineIdle =>
    cases h
    split
    · next hp =>
      refine (BankAct.bank { s.bl with line := .idle } (.inl (bl_ne_reset_of_phase hp.1)) rfl rfl rfl id ?_ id id).acts
      exact fun ⟨hm, hs, _⟩ => ⟨hm, hs, fun ha => by simp [Option.isNone_iff_eq_none.1 hp.2] at ha⟩
    · exact .refl
  | attemptStart =>
    cases h
    split
    · next hm =>
      simp only [State.mayAttempt, Bool.and_eq_true, decide_eq_true_eq, Bool.not_eq_true'] at hm
      obtain ⟨⟨⟨⟨hp, hmute⟩, -⟩, -⟩, -⟩ := hm
      refine (BankAct.bank { s.bl with attempt := some ⟨s.nextFrame, false⟩, line := .busy }
        (.inl (bl_ne_reset_of_phase (by simp [hp]))) rfl rfl rfl id ?_ id id).acts
      exact fun ⟨hm, _, _⟩ => ⟨hm, fun h => by simp [hmute] at h, fun _ => rfl⟩
    · exact .refl
  | arbitrationLost =>
    cases h
    split
    · next ha =>
      refine (BankAct.bank { s.bl with attempt := none } (.inl (bl_ne_reset_of_attempt ha)) rfl rfl rfl id ?_ id id).acts
      exact fun ⟨hm, _, _⟩ => ⟨hm, fun _ => rfl, by simp⟩
    · exact .refl
  | attemptAbandoned => exact execAttemptAbandoned_acts rfl h
  | transmitCompletion => exact execTransmitCompletion_acts rfl h
  | announceTimerExpiry =>
    cases h
    split
    · next ha =>
      exact (BankAct.bank { s.bl with announceSlot := true, announce := .running s.image.announcePeriod }
        (.inl fun h => by rw [h] at ha; cases ha) rfl rfl rfl (fun _ => rfl) id id id).acts
    · exact .refl
  | listenTimerExpiry =>
    cases h
    split
    · next hp => exact (BankAct.join hp.1 rfl).acts
    · exact .refl
  | silenceTimerExpiry =>
    cases h
    split
    · next hp =>
      split
      · next hb => exact (ShareAct.isolate hp.1 hp.2 hb rfl).acts
      · exact (BankAct.bank { s.bl with silence := .expired } (.inl (bl_ne_reset_of_phase (by simp [hp.1]))) rfl rfl rfl id id id id).acts
    · exact .refl
  | muteTimerExpiry =>
    cases h
    split
    · next hm => exact (BankAct.unmute hm.1).acts
    · exact .refl
  | curtailInputChange a b =>
    cases h
    have hpin : Acts (.curtailInputChange a b) none s { s with pins.cl1 := a, pins.cl0 := b } :=
      setPins_acts _ (by rfl) (.inl (by rfl))
    dsimp only
    split
    · next hr =>
      exact hpin.trans (ShareAct.budget (s := { s with pins.cl1 := a, pins.cl0 := b })
        { s.bu with debounce := debounceTimer (inputLevel a b) s.bu.debounced } (.inl hr.1) rfl rfl rfl rfl rfl rfl id fun k hk he => ⟨k, hk, he⟩).acts
    · exact hpin
  | debounceTimerExpiry =>
    cases h
    split
    · next ha =>
      exact .trans (ShareAct.budget { s.bu with debounced := s.inputLevel, debounce := .stopped }
        (.inr (.inr (.inr rfl))) rfl rfl rfl rfl rfl rfl id fun k hk he => ⟨k, hk, he⟩).acts (adoptLocal_acts rfl)
    · exact .refl
  | ackTimerExpiry =>
    cases h
    split
    · next k hk =>
      split
      · next ha =>
        split
        · exact setCollection_acts none (.inr (.inr (.inl fun h => by rw [h] at hk; cases hk))) (by simp)
        · refine (reportFault_acts _ _ _ fun h => by cases h).trans (setCollection_acts none (.inr (.inr (.inl fun h => ?_))) (by simp))
          have hbu : s.bu = Budget.reset := h
          rw [hbu] at hk
          cases hk
      · exact .refl
    · exact .refl
  | otherKindFrame code station body =>
    cases h
    split
    · refine meetFrame_acts fun u hu _ => ?_
      split
      · exact .refl
      · exact peerHeard_acts rfl hu
    · exact .refl
  | bankLineGlitch => cases h; exact noFrame_acts
  | _ => cases hc

/-- Every command is a chain of actions. -/
theorem exec_acts (h : exec c s = .next t) : Does c s t := by
  cases hc : onPort c
  · exact (exec_acts_of_not_onPort hc h).does
  · exact exec_does_of_onPort hc h

end

end Sys2Proof.Machine
end

section
/-!
PROOF. No command stops the machine (log 30), and the start-up state stays in agreement with the blocks (R181, R187, R190): before the release
an action that reaches a block finds it as its reset left it, and so does nothing to it.
-/
namespace Sys2Proof.Machine

/-- Settles O3: each arm of `exec` answers a next state, and no action touches the waiting commands or the fuses. -/
theorem everyCommandAnswersNext : Obligations.EveryCommandAnswersNext := by
  intro c s
  obtain ⟨t, h⟩ : ∃ t, exec c s = .next t := by cases c <;> exact ⟨_, rfl⟩
  have houtside : t.pending = s.pending ∧ t.fuses = s.fuses :=
    (exec_acts h).keeps (P := fun u => u.pending = s.pending ∧ u.fuses = s.fuses)
      (fun r u v hact hu => ⟨hact.outside.1.trans hu.1, hact.outside.2.1.trans hu.2⟩) ⟨rfl, rfl⟩
  exact ⟨t, h, houtside⟩

/-! ### A step is a command or the clock -/

/-- What every command keeps, and the clock, and what does not depend on the waiting commands, every step keeps (log 2). -/
theorem step_keeps {P : State → Prop} {s t : State} (h : step s = .next t) (hs : P s)
    (hfree : ∀ u ps n, P u → P { u with pending := ps, free := n }) (hadvance : P s → P (advance s))
    (hexec : ∀ c u, P u → exec c u = .next t → P t) : P t := by
  unfold step at h
  split at h
  · next c rest _ => exact hexec c _ (hfree s rest s.free hs) h
  · cases h
    unfold idleStep
    split
    · split
      · exact hs
      · exact hadvance hs
    · next c _ => exact hfree s [c] s.free hs
    · exact hfree s _ _ hs

/-! ### The start-up state -/

/-- Reactions to a change that none of their inputs shows do nothing. -/
theorem commit_eq_self {s0 s1 : State} (hm : s1.motion = s0.motion) (hp : s1.pulsing = s0.pulsing)
    (hs : s1.shareInputs = s0.shareInputs) (hf : ∀ l, s1.appliedFlow l = s0.appliedFlow l) : commit s0 s1 = s1 := by
  have hboat : boatReact s0 s1 = s1 := by
    unfold boatReact
    rw [hm, hp, if_neg fun h => h.1 h.2]
    dsimp only
    split
    · next h1 h2 => rw [h1] at h2; cases h2
    · next h1 h2 => rw [h1] at h2; cases h2
    · rfl
  rw [commit, hboat, shareReact, if_pos hs.symm]
  simp [flowReact, hf, GasLine.all]

/-- Nothing flows before the release (R71). -/
theorem appliedFlow_of_unreleased {s : State} (h : s.released = false) (l : GasLine) : s.appliedFlow l = 0 := by
  simp [State.appliedFlow, h]

/-- The blocks that stay as their reset left them before the release (R187). -/
def State.Quiet (s : State) : Prop :=
  s.cl.image = none ∧ s.rs = Sequencer.reset ∧ s.zm = Measurement.reset ∧ s.zc = Heat.reset ∧ s.gc = Gas.reset ∧
    s.bd = Boat.reset ∧ s.bu = Budget.reset ∧ s.bl = Bank.reset

/-- Agreement carried over where the start-up state, the reset and the receiver stay: before the release the blocks have to. -/
theorem State.StartCoherent.of_same {s t : State} (h : s.StartCoherent) (hstart : t.cl.startup = s.cl.startup)
    (himage : t.cl.image = s.cl.image) (hheld : t.resetHeld = s.resetHeld)
    (hrx : s.resetHeld.isSome → s.lp.rx = .skipping → t.lp.rx = .skipping)
    (hquiet : s.released = false → s.Quiet → t.Quiet) : t.StartCoherent := by
  have hrel : t.released = s.released := by simp [State.released, hstart]
  refine ⟨fun hr => hquiet (hrel ▸ hr) (h.quiet (hrel ▸ hr)), fun hr => ?_, fun i hi => h.station i (himage ▸ hi), fun hh => ?_⟩
  · rw [himage]; exact h.image (hrel ▸ hr)
  · rw [hheld] at hh
    exact ⟨hstart.trans (h.reset hh).1, hrx hh (h.reset hh).2⟩

section
variable {c : Instr} {r : Option Request} {s t : State}

/-- An action of the run does nothing to a part that is quiet: its run state is IDLE and nothing is served by RS. -/
theorem RunAct.quiet (h : RunAct c r s t) (hrel : s.released = false) (hq : s.Quiet) : t = s := by
  have hrun : s.rs.run = .idle := by rw [hq.2.1]; rfl
  cases h with
  | hold h => simp [hrun] at h
  | endAbort h | timeOut h => simp [hrun] at h
  | endPurge _ h => rw [hq.2.2.2.2.1] at h; cases h
  | abort _ h | abortAtOnce _ h => have := h.1; rw [hrun] at this; cases this
  | order _ h => rw [hrun] at h; cases h
  | dropOrder h => rw [hq.2.1] at h; cases h
  | evaluate => exact evaluate_of_ne_running (by simp [hrun])
  | tick h => exact absurd hrun h
  | dwell n _ h => rw [State.dwellPending, hq.2.1] at h; cases h
  | append _ _ h | appendStart _ _ _ _ h | start _ _ _ h => rw [hrel] at h; cases h
  | clearQueue _ _ h => rw [hrel] at h; cases h
  | resumeStarved _ h | resumeStart _ _ _ h | resume _ h => rw [hrun] at h; cases h

theorem BoatAct.quiet (h : BoatAct c r s t) (hrel : s.released = false) (hq : s.Quiet) : ∃ p, t = { s with pins := p } := by
  cases h with
  | pins p => exact ⟨p, rfl⟩
  | openGate h => rw [hq.2.2.2.2.2.1] at h; cases h
  | pulse m _ h => rw [hq.2.2.2.2.2.1] at h; cases h
  | move _ _ h | count _ _ h | reclear h | closeGate h | marks _ h | lastMark _ h | rebase _ _ _ h | stop _ _ h | droop h
  | arrive _ h | phase h => rw [hrel] at h; cases h

theorem GasAct.quiet (h : GasAct c s t) (hrel : s.released = false) (hq : s.Quiet) : ∃ p, t = { s with pins := p } := by
  cases h with
  | sealPin b =>
    refine ⟨_, commit_eq_self rfl rfl rfl fun l => ?_⟩
    exact (appliedFlow_of_unreleased (s := { s with pins.sealed := b }) hrel l).trans (appliedFlow_of_unreleased hrel l).symm
  | lines _ h => rcases h with h | h
                 · rw [hrel] at h; cases h
                 · exact absurd hq.2.2.2.2.1 h
  | repeated l h => rw [State.line, hq.2.2.2.2.1] at h; cases l <;> cases h
  | send _ _ _ h => rw [hq.2.2.2.2.1] at h; cases h
  | accumulate _ h | phase h | hand _ h => rw [hrel] at h; cases h

theorem ZoneAct.not_quiet (h : ZoneAct c s t) (hrel : s.released = false) (hq : s.Quiet) : False := by
  cases h with
  | measure _ h => exact h.elim (by simp [hrel]) fun h => h hq.2.2.1
  | window _ _ h => exact h.elim (by simp [hrel]) fun h => h hq.2.2.2.1
  | period _ h => rw [hrel] at h; cases h

theorem BankAct.not_quiet (h : BankAct c s t) (hc : c ≠ .debounceTimerExpiry) (hq : s.Quiet) : False := by
  have hbl := hq.2.2.2.2.2.2.2
  cases h with
  | bank _ h => exact h.elim (fun h => h hbl) hc
  | mute _ _ h => rw [hbl] at h; cases h
  | unmute h | join h => rw [hbl] at h; cases h
  | complete _ _ _ h => rw [hbl] at h; cases h

theorem ShareAct.quiet (h : ShareAct c s t) (hc : c ≠ .debounceTimerExpiry) (hrel : s.released = false) (hq : s.Quiet) :
    t = s := by
  obtain ⟨-, -, -, -, -, -, hbu, hbl⟩ := hq
  cases h with
  | budget _ h => rcases h with h | h | h | h
                  · rw [hrel] at h; cases h
                  · exact absurd hbl h
                  · exact absurd hbu h
                  · exact absurd h hc
  | level _ h => exact h.elim (fun h => absurd hbl h) fun h => absurd h hc
  | entry _ _ _ h => exact absurd hbl h
  | stale n | remove n =>
    have hview : s.bu.view = [] := by rw [hbu]; rfl
    simp only [hview, List.map_nil, List.filter_nil]
    rw [← hview]
    exact commit_eq_self rfl rfl rfl fun _ => rfl
  | hear h | isolate h => rw [hbl] at h; cases h

/-- A part in reset is as either reset leaves it. -/
theorem startCoherent_enterReset (kind : ResetKind) (log : FaultLog) (s : State) : (enterReset kind log s).StartCoherent :=
  ⟨fun _ => ⟨rfl, rfl, rfl, rfl, rfl, rfl, rfl, rfl⟩, fun h => (by cases h), fun i h => (by cases h), fun _ => ⟨rfl, rfl⟩⟩

@[simp] theorem release_cl (s : State) : (release s).cl = { s.cl with
    image := some (applyImage s.cl.staging s.cl.addr s.fuses), clamped := imageClamped s.cl.staging s.cl.addr s.fuses
    startup := .joining } := by
  rw [release, commit_cl]; simp only [releaseBU]; split <;> rfl

/-- The station number in force is one of a bank (R188). -/
theorem applyImage_station (b : List Byte) (addr : BitVec 3) (f : Fuses) :
    1 ≤ (applyImage b addr f).station ∧ (applyImage b addr f).station ≤ 8 := by
  have := addr.isLt
  simp only [applyImage, clampNat]
  split
  · omega
  · split <;> [skip; split] <;> omega

theorem LoadAct.startCoherent (h : LoadAct c r s t) (hs : s.StartCoherent) : t.StartCoherent := by
  have hnone (hrel : s.released = false) (hr : s.resetHeld = none ∨ s.cl.startup ≠ .loading) : s.resetHeld = none := by
    rcases hr with hr | hr
    · exact hr
    · exact Option.not_isSome_iff_eq_none.1 fun h => hr (hs.reset h).1
  cases h with
  | powerOn | warm => exact startCoherent_enterReset _ _ s
  | endReset x y _ hheld =>
    have hrel : s.released = false := by simp [State.released, (hs.reset hheld).1]
    have hq := hs.quiet hrel
    refine ⟨fun _ => ⟨rfl, hq.2⟩, fun h => ?_, fun i h => (by cases h), fun h => (by cases h)⟩
    cases x <;> cases h
  | stage bytes hrel => exact hs.of_same rfl rfl rfl (fun _ h => h) fun _ h => h
  | release hrel hr =>
    have hnone := hnone hrel hr
    have hrel' : (Machine.release s).released = true := by simp [State.released]
    refine ⟨fun h => (by simp [hrel'] at h), fun _ => (by simp), fun i hi => ?_, fun h => (by simp [hnone] at h)⟩
    simp only [release_cl, Option.some.injEq] at hi
    exact hi ▸ applyImage_station _ _ _
  | refuse hrel hr =>
    have hnone := hnone hrel hr
    exact ⟨fun _ => hs.quiet hrel, fun h => (by cases h), hs.station, fun h => (by simp [hnone] at h)⟩

/-- Every action keeps the start-up state in agreement with the blocks; the actions of DEBOUNCE_TIMER_EXPIRY where the part is released. -/
theorem Act.startCoherent (h : Act c r s t) (hs : s.StartCoherent) (hc : c = .debounceTimerExpiry → s.released = true) :
    t.StartCoherent := by
  have hdeb (hrel : s.released = false) : c ≠ .debounceTimerExpiry := fun h => by simp [hc h] at hrel
  have hsame (hcl : t.cl = s.cl) (hheld : t.resetHeld = s.resetHeld) (hrx : t.lp.rx = s.lp.rx)
      (hq : s.released = false → s.Quiet → t.Quiet) : t.StartCoherent :=
    hs.of_same (by rw [hcl]) (by rw [hcl]) hheld (fun _ h => hrx.trans h) hq
  cases h with
  | run h =>
    have hb := h.besideRun
    exact hsame (congrArg (·.cl) hb) (congrArg (·.resetHeld) hb) (congrArg (·.lp.rx) hb) fun hr hq => by rwa [h.quiet hr hq]
  | fault h =>
    refine hsame ?_ ?_ ?_ ?_
    · rw [h.frame]
    · rw [h.frame]
    · rw [h.frame]
    · intro hr hq
      cases h with
      | take => exact hq
      | clear _ h => rw [hr] at h; cases h
  | boat h =>
    have hb := h.frame
    refine hsame (congrArg (·.cl) hb) (congrArg (·.resetHeld) hb) (congrArg (·.lp.rx) hb) fun hr hq => ?_
    obtain ⟨p, rfl⟩ := h.quiet hr hq
    exact hq
  | gas h =>
    have hb := h.frame
    refine hsame (congrArg (·.cl) hb) (congrArg (·.resetHeld) hb) (congrArg (·.lp.rx) hb) fun hr hq => ?_
    obtain ⟨p, rfl⟩ := h.quiet hr hq
    exact hq
  | zone h =>
    have hb := h.frame
    exact hsame (congrArg (·.cl) hb) (congrArg (·.resetHeld) hb) (congrArg (·.lp.rx) hb) fun hr hq => (h.not_quiet hr hq).elim
  | bank h =>
    have hb := h.frame
    have hrel : s.released = true := by
      cases hr : s.released
      · exact (h.not_quiet (hdeb hr) (hs.quiet hr)).elim
      · rfl
    have hrel' : t.released = true := by
      cases h with
      | bank | mute | unmute => exact hrel
      | complete => simpa [State.released, completeAnnounce, frameEnds] using hrel
      | join => rfl
    have himage : t.cl.image = s.cl.image := congrArg (·.cl.image) hb
    have hheld : s.resetHeld = none := by
      refine Option.not_isSome_iff_eq_none.1 fun h => ?_
      rw [State.released, (hs.reset h).1] at hrel
      cases hrel
    have hheld' : t.resetHeld = none := (congrArg (·.resetHeld) hb).trans hheld
    exact ⟨fun h => (by simp [hrel'] at h), fun _ => himage ▸ hs.image hrel, fun i hi => hs.station i (himage ▸ hi),
      fun h => (by simp [hheld'] at h)⟩
  | share h =>
    have hb := h.frame
    exact hsame (congrArg (·.cl) hb) (congrArg (·.resetHeld) hb) (congrArg (·.lp.rx) hb) fun hr hq => by
      rwa [h.quiet (hdeb hr) hr hq]
  | port h =>
    cases h with
    | hear rx gap h => exact hs.of_same rfl rfl rfl h fun _ h => h
    | lineError | overrun | wait | replied | reply | readEvents => exact hs.of_same rfl rfl rfl (fun _ h => h) fun _ h => h
  | load h => exact h.startCoherent hs
  | choose => exact hs.of_same rfl rfl rfl (fun _ h => h) fun _ h => h

/-- A released part stays released in a command that is no reset. -/
theorem Act.released (h : Act c r s t) (hc : c ≠ .powerOnReset ∧ c ≠ .warmReset ∧ ∀ x y, c ≠ .resetEnd x y) (hs : s.released = true) :
    t.released = true := by
  have hsame (hcl : t.cl = s.cl) : t.released = true := by simpa [State.released, hcl] using hs
  cases h with
  | run h => exact hsame (congrArg (·.cl) h.besideRun)
  | fault h => exact hsame (by rw [h.frame])
  | boat h => exact hsame (congrArg (·.cl) h.frame)
  | gas h => exact hsame (congrArg (·.cl) h.frame)
  | zone h => exact hsame (congrArg (·.cl) h.frame)
  | bank h =>
    cases h with
    | bank | mute | unmute => exact hs
    | complete => simpa [State.released, completeAnnounce, frameEnds] using hs
    | join => rfl
  | share h => exact hsame (congrArg (·.cl) h.frame)
  | port h => exact hsame (by rw [h.frame])
  | load h =>
    cases h with
    | powerOn h => exact absurd h hc.1
    | warm h => exact absurd h hc.2.1
    | endReset x y h => exact absurd h (hc.2.2 x y)
    | stage _ h | release h | refuse h => rw [hs] at h; cases h
  | choose => exact hs

/-- A chain of actions keeps the start-up state in agreement. -/
theorem Does.startCoherent (h : Does c s t) (hs : s.StartCoherent) (hc : c = .debounceTimerExpiry → s.released = true) :
    t.StartCoherent :=
  (h.keeps (P := fun u => u.StartCoherent ∧ (c = .debounceTimerExpiry → u.released = true))
    (fun _ _ _ hact hu => ⟨hact.startCoherent hu.1 hu.2, fun h => hact.released (by simp [h]) (hu.2 h)⟩) ⟨hs, hc⟩).1

/-- Every command keeps the start-up state in agreement: before the release no debounce timer runs. -/
theorem exec_startCoherent (h : exec c s = .next t) (hs : s.StartCoherent) : t.StartCoherent := by
  by_cases hc : c = .debounceTimerExpiry ∧ s.released = false
  · obtain ⟨rfl, hrel⟩ := hc
    have hbu : s.bu = Budget.reset := (hs.quiet hrel).2.2.2.2.2.2.1
    cases h
    rw [if_neg (by rw [hbu]; decide)]
    exact hs
  · exact (exec_acts h).startCoherent hs fun h => by simpa [h] using hc

/-- A quiet part is not changed by the clock, but for the port. -/
theorem advance_quiet (hq : s.Quiet) : (advance s).Quiet := by
  obtain ⟨h1, h2, h3, h4, h5, h6, h7, h8⟩ := hq
  refine ⟨h1, ?_, ?_, ?_, ?_, ?_, ?_, ?_⟩ <;> simp only [advance, State.dwellPending, State.zoneM, State.zoneC, State.line, *] <;> rfl

theorem advance_startCoherent (hs : s.StartCoherent) : (advance s).StartCoherent :=
  hs.of_same rfl rfl rfl (fun _ h => h) fun _ => advance_quiet

end

/-- Settles O7, action by action: see `Act.startCoherent`. -/
theorem startCoherentKept : Obligations.StartCoherentKept := fun _ _ hs h =>
  step_keeps h hs (fun _ _ _ hu => ⟨hu.quiet, hu.image, hu.station, hu.reset⟩) advance_startCoherent
    fun _ _ hu h => exec_startCoherent h hu

end Sys2Proof.Machine
end

section
/-!
SUPPORT. What the actions of the run set, field by field (R12 to R24), and the rule by which an invariant is shown action by action.
-/
namespace Sys2Proof.Machine

/-! ### RS -/

@[simp] theorem enterHeld_rs (s : State) : (enterHeld s).rs = { s.rs with run := .held, prior := priorOf s.rs.run } := by
  simp [enterHeld]

@[simp] theorem enterIdle_rs (s : State) : (enterIdle s).rs = { s.rs with
    run := .idle, prior := none, current := none, thermal := none, gas := none, dwell := ⟨.stopped, 0, false⟩
    stepTimer := .stopped, abortTimer := .stopped, clockPhase := .stopped, labelInForce := none } := by
  simp [enterIdle, stopStepTimers]

@[simp] theorem beginAbort_rs (s : State) : (beginAbort s).rs = { s.rs with
    run := .aborting, prior := none, queue := [], discarded := s.rs.queue.length, current := none, thermal := none, gas := none
    dwell := ⟨.stopped, 0, false⟩, stepTimer := .stopped, abortTimer := .running (s.image.abortTimeout * 1000) } := by
  simp [beginAbort, stopStepTimers]

@[simp] theorem leaveHeld_rs (run : RunState) (s : State) : (leaveHeld run s).rs = { s.rs with run := run, prior := none } := by
  simp [leaveHeld]

@[simp] theorem evaluateDroop_rs (s : State) : (evaluateDroop s).rs = s.rs := congrArg (·.rs) (evaluateDroop_frame s)
@[simp] theorem testArrival_rs (s : State) : (testArrival s).rs = s.rs := congrArg (·.rs) (testArrival_frame s)
@[simp] theorem takeTarget_rs (m : BoatPart) (s : State) : (takeTarget m s).rs = s.rs := congrArg (·.rs) (takeTarget_frame m s)
@[simp] theorem takeThermal_rs (p : ThermalPart) (s : State) : (takeThermal p s).rs = s.rs := rfl
@[simp] theorem takeGas_rs (p : GasPart) (s : State) : (takeGas p s).rs = s.rs := rfl

/-- A field that a part's taking leaves, its hand-over leaves (R6). -/
theorem handOver_keeps {α β : Type} (f : State → β) (part : Option α) (take : α → State → State) (s : State)
    (h : ∀ p s, f (take p s) = f s) : f (handOver part take s) = f s := by
  cases part with
  | none => rfl
  | some p => exact h p s

/-- The state that a step start commits, up to its event: parts handed over, timers armed, latches released (R12). -/
def stepHandedOut (r : StepRecord) (s : State) : State :=
  handOver r.boat takeTarget (handOver r.gas takeGas (handOver r.thermal takeThermal (makeCurrent r s)))

theorem startStep_eq (r : StepRecord) (s : State) : startStep r s =
    commit s (raiseEvent .stepStarted (releaseLatches (armStepTimers r { stepHandedOut r s with gc.acc := 0 }))) := rfl

@[simp] theorem stepHandedOut_rs (r : StepRecord) (s : State) : (stepHandedOut r s).rs = (makeCurrent r s).rs := by
  rw [stepHandedOut, handOver_keeps State.rs _ _ _ takeTarget_rs, handOver_keeps State.rs _ _ _ takeGas_rs,
    handOver_keeps State.rs _ _ _ takeThermal_rs]

@[simp] theorem startStep_rs (r : StepRecord) (s : State) : (startStep r s).rs = { s.rs with
    run := .running, prior := none, current := some r, labelInForce := some r.label
    thermal := r.thermal.or s.rs.thermal, gas := r.gas.or s.rs.gas
    dwell := ⟨.armed, 0, false⟩, stepTimer := timeoutTimer r } := by
  simp [startStep_eq, armStepTimers, makeCurrent]

@[simp] theorem finishStep_rs (r : StepRecord) (s : State) : (finishStep r s).rs = { s.rs with
    current := none, lastLabel := some r.label, done := satSucc Config.count16 s.rs.done
    dwell := ⟨.stopped, 0, false⟩, stepTimer := .stopped } := rfl

@[simp] theorem starve_rs (s : State) : (starve s).rs = { s.rs with run := .starved } := rfl

theorem restartTimeout_rs (s : State) : ∃ x, (restartTimeout s).rs = { s.rs with stepTimer := x } := by
  unfold restartTimeout
  split
  · exact ⟨_, rfl⟩
  · exact ⟨s.rs.stepTimer, rfl⟩

/-! ### GC -/

@[simp] theorem enterHeld_acc (s : State) : (enterHeld s).gc.acc = s.gc.acc := by simp [enterHeld]
@[simp] theorem enterIdle_acc (s : State) : (enterIdle s).gc.acc = s.gc.acc := by
  simp [enterIdle, takeIdleFlows, releaseLatches, commandFlows, mapLines, stopStepTimers]
@[simp] theorem beginAbort_acc (s : State) : (beginAbort s).gc.acc = 0 := by
  simp [beginAbort, takeAbortFlows, commandFlows, mapLines]
@[simp] theorem leaveHeld_acc (run : RunState) (s : State) : (leaveHeld run s).gc.acc = s.gc.acc := by simp [leaveHeld]
@[simp] theorem startStep_acc (r : StepRecord) (s : State) : (startStep r s).gc.acc = 0 := by
  simp [startStep_eq, releaseLatches, mapLines, armStepTimers]
@[simp] theorem finishStep_gc (r : StepRecord) (s : State) : (finishStep r s).gc = s.gc := rfl
@[simp] theorem starve_gc (s : State) : (starve s).gc = s.gc := rfl

@[simp] theorem enterHeld_abortPurge (s : State) : (enterHeld s).gc.abortPurge = s.gc.abortPurge := by simp [enterHeld]
@[simp] theorem enterIdle_abortPurge (s : State) : (enterIdle s).gc.abortPurge = false := by
  simp [enterIdle, takeIdleFlows, releaseLatches, commandFlows, mapLines]
@[simp] theorem beginAbort_abortPurge (s : State) : (beginAbort s).gc.abortPurge = true := by
  simp [beginAbort, takeAbortFlows, commandFlows, mapLines]
@[simp] theorem leaveHeld_abortPurge (run : RunState) (s : State) : (leaveHeld run s).gc.abortPurge = s.gc.abortPurge := by
  simp [leaveHeld]

@[simp] theorem evaluateDroop_gc (s : State) : (evaluateDroop s).gc = s.gc := by
  rcases evaluateDroop_cases s with h | ⟨_, _, _, h⟩ <;> rw [h]
@[simp] theorem testArrival_gc (s : State) : (testArrival s).gc = s.gc := by
  rcases testArrival_cases s with h | ⟨-, h⟩ <;> rw [h]
  rfl
@[simp] theorem takeTarget_gc (m : BoatPart) (s : State) : (takeTarget m s).gc = s.gc := by
  calc (takeTarget m s).gc
    _ = (testArrival (evaluateDroop _)).gc := rfl
    _ = s.gc := by rw [testArrival_gc, evaluateDroop_gc]
@[simp] theorem takeThermal_gc (p : ThermalPart) (s : State) : (takeThermal p s).gc = s.gc := rfl

@[simp] theorem startStep_abortPurge (r : StepRecord) (s : State) : (startStep r s).gc.abortPurge = s.gc.abortPurge := by
  have h : (stepHandedOut r s).gc.abortPurge = s.gc.abortPurge := by
    rw [stepHandedOut, handOver_keeps (·.gc.abortPurge) _ _ _ fun p u => by rw [takeTarget_gc],
      handOver_keeps (·.gc.abortPurge) _ takeGas _ fun p u => rfl, handOver_keeps (·.gc.abortPurge) _ takeThermal _ fun p u => rfl]
    rfl
  simpa [startStep_eq, releaseLatches, mapLines, armStepTimers] using h

/-! ### Invariants, action by action -/

section
variable {P : State → Prop} {c : Instr} {s t : State}

/-- What every action keeps in states whose start-up state is in agreement, a command keeps. -/
theorem exec_keeps (h : exec c s = .next t) (hsc : s.StartCoherent) (hs : P s)
    (hact : ∀ r u v, Act c r u v → u.StartCoherent → P u → P v) : P t := by
  by_cases hc : c = .debounceTimerExpiry ∧ s.released = false
  · obtain ⟨rfl, hrel⟩ := hc
    have hbu : s.bu = Budget.reset := (hsc.quiet hrel).2.2.2.2.2.2.1
    cases h
    rw [if_neg (by rw [hbu]; decide)]
    exact hs
  · refine ((exec_acts h).keeps
      (P := fun u => (u.StartCoherent ∧ (c = .debounceTimerExpiry → u.released = true)) ∧ P u) ?_
      ⟨⟨hsc, fun h => by simpa [h] using hc⟩, hs⟩).2
    rintro r u v hact' ⟨⟨hu, hd⟩, hP⟩
    exact ⟨⟨hact'.startCoherent hu hd, fun h => hact'.released (by simp [h]) (hd h)⟩, hact r u v hact' hu hP⟩

/-- What every action and the clock keep, every step keeps. -/
theorem step_keeps_acts (h : step s = .next t) (hsc : s.StartCoherent) (hs : P s)
    (hfree : ∀ u ps n, P u → P { u with pending := ps, free := n })
    (hadvance : s.StartCoherent → P s → P (advance s))
    (hact : ∀ c r u v, Act c r u v → u.StartCoherent → P u → P v) : P t :=
  (step_keeps (P := fun u => u.StartCoherent ∧ P u) h ⟨hsc, hs⟩
    (fun u ps n hu => ⟨⟨hu.1.quiet, hu.1.image, hu.1.station, hu.1.reset⟩, hfree u ps n hu.2⟩)
    (fun hu => ⟨advance_startCoherent hu.1, hadvance hu.1 hu.2⟩)
    fun c u hu h => ⟨exec_startCoherent h hu.1, exec_keeps h hu.1 hu.2 (hact c)⟩).2

end

end Sys2Proof.Machine
end

section
/-!
PROOF. Two invariants of every step: the peer view keeps sound entries by rising station number (R106 to R109), and queues, counts and the
staging image keep their sizes.
-/
namespace Sys2Proof.Machine

/-! ### The peer view -/

/-- Only actions of the shares change the peer view, and only the release and the resets the image in force. -/
theorem Act.view {c : Instr} {r : Option Request} {s t : State} (h : Act c r s t) :
    ShareAct c s t ∨ LoadAct c r s t ∨ t.bu.view = s.bu.view ∧ t.image = s.image := by
  have hsame (hv : t.bu.view = s.bu.view) (hi : t.cl.image = s.cl.image) :
      ShareAct c s t ∨ LoadAct c r s t ∨ t.bu.view = s.bu.view ∧ t.image = s.image :=
    .inr (.inr ⟨hv, by rw [State.image, hi]; rfl⟩)
  cases h with
  | run h => exact hsame (congrArg (·.bu.view) h.besideRun) (congrArg (·.cl.image) h.besideRun)
  | fault h => rw [h.frame]; exact .inr (.inr ⟨rfl, rfl⟩)
  | boat h => exact hsame (congrArg (·.bu.view) h.frame) (congrArg (·.cl.image) h.frame)
  | gas h => exact hsame (congrArg (·.bu.view) h.frame) (congrArg (·.cl.image) h.frame)
  | zone h => exact hsame (congrArg (·.bu.view) h.frame) (congrArg (·.cl.image) h.frame)
  | bank h => exact hsame (congrArg (·.bu.view) h.frame) (congrArg (·.cl.image) h.frame)
  | share h => exact .inl h
  | port h => rw [h.frame]; exact .inr (.inr ⟨rfl, rfl⟩)
  | load h => exact .inr (.inl h)
  | choose => exact .inr (.inr ⟨rfl, rfl⟩)

/-- The entry that an ANNOUNCE body gives a peer is sound (R106, R107). -/
theorem readAnnounce_sound {station : StationCode} {body : AnnounceBody} {e : ViewEntry} {own : Nat}
    (h : readAnnounce (stationNumber station) body = some e) (hst : stationNumber station ≠ own) : e.Sound own := by
  have hnum : 1 ≤ stationNumber station ∧ stationNumber station ≤ 8 := by
    have := station.isLt
    unfold stationNumber; omega
  unfold readAnnounce at h
  dsimp only at h
  split at h
  · next hb =>
    obtain ⟨h1, h2, h3, h4, h5, h6, h7⟩ := hb
    split at h
    · cases h
      exact ⟨hnum, hst, ⟨h1, h2, h3⟩, ⟨h4, h5, h6⟩, h7⟩
    · cases h
  · cases h

/-- Every entry of the view after an insertion is the new one or was there before. -/
theorem mem_insertEntry {e x : ViewEntry} {v : List ViewEntry} (h : x ∈ insertEntry e v) : x = e ∨ x ∈ v := by
  induction v with
  | nil => exact .inl (by simpa [insertEntry] using h)
  | cons y ys ih =>
    simp only [insertEntry] at h
    split at h
    · simpa using h
    · split at h
      · rcases List.mem_cons.1 h with h | h
        · exact .inl h
        · exact .inr (List.mem_cons_of_mem _ h)
      · rcases List.mem_cons.1 h with h | h
        · exact .inr (h ▸ List.mem_cons_self)
        · exact (ih h).imp id (List.mem_cons_of_mem _)

/-- An insertion keeps the view by rising station number (R106). -/
theorem insertEntry_pairwise (e : ViewEntry) (v : List ViewEntry) (h : v.Pairwise (·.station < ·.station)) :
    (insertEntry e v).Pairwise (·.station < ·.station) := by
  induction v with
  | nil => simp [insertEntry]
  | cons x xs ih =>
    obtain ⟨hx, hxs⟩ := List.pairwise_cons.1 h
    simp only [insertEntry]
    split
    · next hlt =>
      refine List.pairwise_cons.2 ⟨fun y hy => ?_, h⟩
      rcases List.mem_cons.1 hy with rfl | hy
      · exact hlt
      · exact hlt.trans (hx y hy)
    · next hge =>
      split
      · next heq => exact List.pairwise_cons.2 ⟨fun y hy => heq ▸ hx y hy, hxs⟩
      · next hne =>
        refine List.pairwise_cons.2 ⟨fun y hy => ?_, ih hxs⟩
        rcases mem_insertEntry hy with rfl | hy
        · exact lt_of_le_of_ne (Nat.not_lt.1 hge) (Ne.symm hne)
        · exact hx y hy

/-- A change of each entry that leaves what is sound about it keeps the view sound. -/
theorem viewSound_map {v : List ViewEntry} {own : Nat} (f : ViewEntry → ViewEntry)
    (hf : ∀ e, (f e).station = e.station ∧ (f e).heater = e.heater ∧ (f e).purge = e.purge ∧ (f e).rank = e.rank)
    (h : v.Pairwise (·.station < ·.station) ∧ ∀ e ∈ v, e.Sound own) :
    (v.map f).Pairwise (·.station < ·.station) ∧ ∀ e ∈ v.map f, e.Sound own := by
  refine ⟨List.pairwise_map.2 (h.1.imp fun {a b} hab => by rwa [(hf a).1, (hf b).1]), fun e he => ?_⟩
  obtain ⟨x, hx, rfl⟩ := List.mem_map.1 he
  obtain ⟨hst, hh, hp, hr⟩ := hf x
  obtain ⟨h1, h2, h3, h4, h5⟩ := h.2 x hx
  exact ⟨hst ▸ h1, hst ▸ h2, hh ▸ h3, hp ▸ h4, hr ▸ h5⟩

theorem staleEntry_same (p n : Nat) (e : ViewEntry) : (staleEntry p n e).station = e.station ∧
    (staleEntry p n e).heater = e.heater ∧ (staleEntry p n e).purge = e.purge ∧ (staleEntry p n e).rank = e.rank := by
  unfold staleEntry; split <;> exact ⟨rfl, rfl, rfl, rfl⟩

section
variable {c : Instr} {r : Option Request} {s t : State}

/-- Before the release no peer is in view. -/
theorem view_of_unreleased (hs : s.StartCoherent) (h : s.released = false) : s.bu.view = [] := by
  rw [(hs.quiet h).2.2.2.2.2.2.1]; rfl

@[simp] theorem release_view (s : State) : (release s).bu.view = s.bu.view := by
  rw [release, commit_bu_view]; simp only [releaseBU]; split <;> rfl

theorem ShareAct.viewSound (h : ShareAct c s t) (hs : s.ViewSound) : t.ViewSound := by
  have himage : t.image = s.image := by rw [State.image, show t.cl = s.cl from congrArg (·.cl) h.frame]; rfl
  unfold State.ViewSound
  rw [himage]
  cases h with
  | budget b _ hv => exact hv ▸ hs
  | level | hear | isolate => simpa using hs
  | entry station body e _ hst he =>
    rw [commit_bu_view]
    refine ⟨insertEntry_pairwise e s.bu.view hs.1, fun x hx => ?_⟩
    rcases mem_insertEntry hx with rfl | hx
    · exact readAnnounce_sound he hst
    · exact hs.2 x hx
  | stale n => rw [commit_bu_view]; exact viewSound_map _ (staleEntry_same _ n) hs
  | remove n =>
    rw [commit_bu_view]
    exact ⟨hs.1.sublist List.filter_sublist, fun e he => hs.2 e (List.mem_of_mem_filter he)⟩

theorem LoadAct.view (h : LoadAct c r s t) (hs : s.StartCoherent) : t.bu.view = [] := by
  cases h with
  | powerOn | warm => rfl
  | endReset x y _ hheld =>
    have hr : s.released = false := by simp [State.released, (hs.reset hheld).1]
    exact (view_of_unreleased hs hr : s.bu.view = [])
  | stage _ hr | refuse hr => exact (view_of_unreleased hs hr : s.bu.view = [])
  | release hr => rw [release_view]; exact view_of_unreleased hs hr

theorem Act.viewSound (h : Act c r s t) (hsc : s.StartCoherent) (hs : s.ViewSound) : t.ViewSound := by
  rcases h.view with h | h | ⟨hv, hi⟩
  · exact h.viewSound hs
  · unfold State.ViewSound
    rw [h.view hsc]
    simp
  · unfold State.ViewSound
    rw [hv, hi]
    exact hs

/-- Numbers that rise and lie from 1 to 8 without the own one are at most 7. -/
theorem length_le_seven {ns : List Nat} {own : Nat} (hown : 1 ≤ own ∧ own ≤ 8) (h : ns.Pairwise (· < ·))
    (hr : ∀ n ∈ ns, (1 ≤ n ∧ n ≤ 8) ∧ n ≠ own) : ns.length ≤ 7 := by
  have hnodup : ns.Nodup := h.imp fun hab => Nat.ne_of_lt hab
  have hsub : ns.toFinset ⊆ (Finset.Icc 1 8).erase own := fun n hn => by
    have := hr n (List.mem_toFinset.1 hn)
    simp [this]
  have hcard := Finset.card_le_card hsub
  rwa [List.toFinset_card_of_nodup hnodup, Finset.card_erase_of_mem (by simpa using hown), Nat.card_Icc] at hcard

/-- A sound view has at most 7 peers, of the 8 stations of a bank. -/
theorem view_length_le (hsc : s.StartCoherent) (hs : s.ViewSound) : s.bu.view.length ≤ 7 := by
  cases hrel : s.released
  · simp [view_of_unreleased hsc hrel]
  · obtain ⟨i, hi⟩ := Option.isSome_iff_exists.1 (hsc.image hrel)
    have hown : 1 ≤ s.image.station ∧ s.image.station ≤ 8 := by
      simpa [State.image, hi] using hsc.station i hi
    have := length_le_seven (ns := s.bu.view.map (·.station)) hown (List.pairwise_map.2 hs.1) fun n hn => by
      obtain ⟨e, he, rfl⟩ := List.mem_map.1 hn
      exact ⟨(hs.2 e he).station, (hs.2 e he).peer⟩
    simpa using this

end

/-- Settles O11: only the actions of the shares and of the loader reach the view, and each keeps it sound; the bound counts stations. -/
theorem viewSoundKept : Obligations.ViewSoundKept := fun s t hsc hs h => by
  have hview : t.ViewSound := step_keeps_acts h hsc hs (fun u _ _ hu => hu)
    (fun _ hu => viewSound_map _ (fun _ => ⟨rfl, rfl, rfl, rfl⟩) hu) fun _ _ _ _ hact hu => hact.viewSound hu
  exact ⟨hview, view_length_le (startCoherentKept s t hsc h) hview⟩

/-! ### Sizes -/

/-- The sizes of what the run holds: queue, clock, counts and accumulator. -/
def State.RunInRange (s : State) : Prop :=
  s.rs.queue.length ≤ Config.queueCapacity ∧ s.rs.clock ≤ Config.count32 ∧ s.rs.done ≤ Config.count16 ∧
    s.rs.discarded ≤ Config.queueCapacity ∧ s.gc.acc ≤ Config.count32

theorem runInRange_startStep (n : StepRecord) {s : State} (h : s.RunInRange) : (startStep n s).RunInRange := by
  obtain ⟨h1, h2, h3, h4, -⟩ := h
  simp [State.RunInRange, h1, h2, h3, h4]

theorem runInRange_enterIdle {s : State} (h : s.RunInRange) : (enterIdle s).RunInRange := by
  simpa [State.RunInRange] using h

theorem runInRange_beginAbort {s : State} (h : s.RunInRange) : (beginAbort s).RunInRange := by
  obtain ⟨h1, h2, h3, -, -⟩ := h
  simp [State.RunInRange, h1, h2, h3]

theorem runInRange_finishStep (r : StepRecord) {s : State} (h : s.RunInRange) : (finishStep r s).RunInRange := by
  obtain ⟨h1, h2, h3, h4, h5⟩ := h
  exact ⟨h1, h2, satSucc_le h3, h4, h5⟩

/-- A queue that loses its head is no longer. -/
theorem runInRange_popped {s : State} {n : StepRecord} {rest : List StepRecord} (h : s.RunInRange) (hq : s.rs.queue = n :: rest) :
    ({ s with rs.queue := rest } : State).RunInRange := by
  obtain ⟨h1, h⟩ := h
  rw [hq, List.length_cons] at h1
  exact ⟨by simp; omega, h⟩

theorem runInRange_evaluate {s : State} (h : s.RunInRange) : (evaluate s).RunInRange :=
  evaluate_keeps State.RunInRange (hdwell := fun _ _ h => h)
    (hlast := fun _ r _ _ h => runInRange_enterIdle (runInRange_finishStep r h))
    (hstarve := fun _ r _ _ _ h => runInRange_finishStep r h)
    (hnext := fun _ r _ _ _ _ hq h => runInRange_startStep _ (runInRange_popped (runInRange_finishStep r h) hq)) s h

theorem runInRange_leaveHeld (run : RunState) {s : State} (h : s.RunInRange) : (leaveHeld run s).RunInRange := by
  simpa [State.RunInRange] using h

theorem runInRange_stepStart (n : StepRecord) {s : State} (h : s.RunInRange) : (stepStart n s).RunInRange :=
  runInRange_evaluate (runInRange_startStep n h)

section
variable {c : Instr} {r : Option Request} {s t : State}

theorem RunAct.runInRange (h : RunAct c r s t) (hs : s.RunInRange) : t.RunInRange := by
  have hset (q : List StepRecord) (hq : q.length ≤ Config.queueCapacity) : ({ s with rs.queue := q } : State).RunInRange :=
    ⟨hq, hs.2⟩
  cases h with
  | hold => simpa [State.RunInRange] using hs
  | endAbort => exact runInRange_enterIdle hs
  | abort b => exact runInRange_beginAbort hs
  | abortAtOnce b => exact runInRange_enterIdle (runInRange_beginAbort hs)
  | evaluate => exact runInRange_evaluate hs
  | tick =>
    obtain ⟨h1, h2, h3, h4, h5⟩ := hs
    exact ⟨h1, satSucc_le h2, h3, h4, h5⟩
  | append raw _ _ _ _ hq => exact hset _ (by simpa using hq)
  | appendStart raw n rest _ _ _ hq hn =>
    refine runInRange_stepStart n (hset rest ?_)
    have := congrArg List.length hn
    simp only [List.length_append, List.length_cons, List.length_nil] at this
    omega
  | clearQueue => exact hset [] (Nat.zero_le _)
  | start n rest _ _ _ hq =>
    obtain ⟨h1, h2, h3, h4, h5⟩ := runInRange_popped hs hq
    exact runInRange_stepStart n ⟨h1, Nat.zero_le _, Nat.zero_le _, Nat.zero_le _, h5⟩
  | resumeStarved => exact runInRange_leaveHeld .starved hs
  | resumeStart n rest _ _ _ hq =>
    exact runInRange_stepStart n (runInRange_popped (n := n) (runInRange_leaveHeld .running hs) (by simpa using hq))
  | resume =>
    refine runInRange_evaluate ?_
    have : (restartTimeout (leaveHeld .running s)).RunInRange ↔ (leaveHeld .running s).RunInRange := by
      unfold restartTimeout; split <;> exact Iff.rfl
    exact this.2 (runInRange_leaveHeld .running hs)
  | endPurge | order | dropOrder | timeOut | dwell => exact hs

/-- The sizes that the run does not reach. -/
def State.BesideInRange (s : State) : Prop :=
  s.bl.abandons ≤ Config.abandonLimit ∧ s.zm.checkErrors ≤ Config.count16 ∧ s.zm.ignored ≤ Config.count16 ∧
    s.bl.rxErrors ≤ Config.count16 ∧ s.bu.contentErrors ≤ Config.count16 ∧ s.lp.lineErrors ≤ Config.count16 ∧
    s.lp.overruns ≤ Config.count16 ∧ s.cl.staging.length = 64

/-- The sizes are those of the run, those beside it, the mark queue and the fault count. -/
theorem withinRanges_iff (s : State) : s.WithinRanges ↔
    s.RunInRange ∧ s.BesideInRange ∧ s.bd.marks.length ≤ Config.markCapacity ∧ s.fl.count ≤ 255 := by
  constructor
  · rintro ⟨h1, h2, h3, h4, h5, h6, h7, h8, h9, h10, h11, h12, h13, h14, h15⟩
    exact ⟨⟨h1, h4, h5, h6, h3⟩, ⟨h7, h9, h10, h11, h12, h13, h14, h15⟩, h2, h8⟩
  · rintro ⟨⟨h1, h4, h5, h6, h3⟩, ⟨h7, h9, h10, h11, h12, h13, h14, h15⟩, h2, h8⟩
    exact ⟨h1, h2, h3, h4, h5, h6, h7, h8, h9, h10, h11, h12, h13, h14, h15⟩

/-- A fault counts to at most 255 (R159). -/
theorem placeFault_count (rec : FaultRecord) {f : FaultLog} (h : f.count ≤ 255) : (placeFault rec f).count ≤ 255 :=
  satSucc_le h

theorem BoatAct.marks_le (h : BoatAct c r s t) (hs : s.bd.marks.length ≤ Config.markCapacity) :
    t.bd.marks.length ≤ Config.markCapacity := by
  cases h with
  | marks ms _ hms => exact hms hs
  | move raw =>
    have : (takeTarget (storeBoat s.image raw) s).bd.marks = s.bd.marks :=
      congrArg (·.bd.marks) (takeTarget_besideRun _ s)
    simpa [this] using hs
  | stop s0 => rw [commit_bd_marks]; unfold stopMove; split <;> exact hs
  | droop =>
    have : (evaluateDroop s).bd.marks = s.bd.marks := congrArg (·.bd.marks) (evaluateDroop_besideRun s)
    simpa [this] using hs
  | arrive =>
    have : (testArrival s).bd.marks = s.bd.marks := congrArg (·.bd.marks) (testArrival_besideRun s)
    simpa [this] using hs
  | count | closeGate | openGate | pulse | rebase => rw [commit_bd_marks]; exact hs
  | pins | reclear | lastMark | phase => exact hs

/-- What the release leaves in RS, ZM's and LP's counts, BL's counts and the log. -/
theorem release_withinRanges (hs : s.WithinRanges) : (Machine.release s).WithinRanges := by
  have hrun : (Machine.release s).rs = s.rs := by rw [Machine.release, commit_rs]; simp only [releaseBU]; split <;> rfl
  have hacc : (Machine.release s).gc.acc = s.gc.acc := by rw [Machine.release, commit_gc_acc]; simp only [releaseBU]; split <;> rfl
  have hmarks : (Machine.release s).bd.marks = s.bd.marks := by
    rw [Machine.release, commit_bd_marks]; simp only [releaseBU]; split <;> rfl
  have hab : (Machine.release s).bl.abandons = s.bl.abandons := by
    rw [Machine.release, commit_bl_abandons]; simp only [releaseBU]; split <;> rfl
  have hrx : (Machine.release s).bl.rxErrors = s.bl.rxErrors := by
    rw [Machine.release, commit_bl_rxErrors]; simp only [releaseBU]; split <;> rfl
  have hfl : (Machine.release s).fl = s.fl := by rw [Machine.release, commit_fl]; simp only [releaseBU]; split <;> rfl
  have hce : (Machine.release s).zm.checkErrors = s.zm.checkErrors ∧ (Machine.release s).zm.ignored = s.zm.ignored := by
    rw [Machine.release, commit_zm]; simp only [releaseBU]; split <;> exact ⟨rfl, rfl⟩
  have hco : (Machine.release s).bu.contentErrors = s.bu.contentErrors := by
    rw [Machine.release, commit_bu_contentErrors]; simp only [releaseBU]; split <;> rfl
  have hle : (Machine.release s).lp.lineErrors = s.lp.lineErrors := by
    rw [Machine.release, commit_lp_lineErrors]; simp only [releaseBU]; split <;> rfl
  have hov : (Machine.release s).lp.overruns = s.lp.overruns := by
    rw [Machine.release, commit_lp_overruns]; simp only [releaseBU]; split <;> rfl
  rw [withinRanges_iff] at hs ⊢
  simpa [State.RunInRange, State.BesideInRange, hrun, hacc, hmarks, hab, hrx, hfl, hce, hco, hle, hov] using hs

theorem withinRanges_reset (kind : ResetKind) (log : FaultLog) (h : log.count ≤ 255) : (enterReset kind log s).WithinRanges := by
  constructor
  case faults => exact h
  case staging => exact List.length_replicate
  all_goals exact Nat.zero_le _

theorem Act.withinRanges (h : Act c r s t) (hs : s.WithinRanges) : t.WithinRanges := by
  rw [withinRanges_iff] at hs ⊢
  obtain ⟨hrun, hbeside, hmarks, hcount⟩ := hs
  -- the parts of the claim that a frame gives
  have hrun' (h1 : t.rs = s.rs) (h2 : t.gc.acc = s.gc.acc) : t.RunInRange := by
    unfold State.RunInRange; rw [h1, h2]; exact hrun
  obtain ⟨h1, h2, h3, h4, h5, h6, h7, h8⟩ := id hbeside
  cases h with
  | run h =>
    have hb := h.besideRun
    have hcount' : t.fl = s.fl := congrArg (·.fl) hb
    have hmarks' : t.bd.marks = s.bd.marks := congrArg (·.bd.marks) hb
    have hbeside' := congrArg State.BesideInRange hb
    exact ⟨h.runInRange hrun, hbeside'.mpr hbeside, hmarks' ▸ hmarks, hcount' ▸ hcount⟩
  | fault h =>
    cases h with
    | take => exact ⟨hrun, hbeside, hmarks, placeFault_count _ hcount⟩
    | clear => exact ⟨hrun, hbeside, hmarks, Nat.zero_le _⟩
  | boat h =>
    have hf := h.frame
    have hbeside' := congrArg State.BesideInRange hf
    exact ⟨hrun' (congrArg (·.rs) hf) (congrArg (·.gc.acc) hf), hbeside'.mpr hbeside, h.marks_le hmarks,
      (congrArg (·.fl.count) hf : t.fl.count = s.fl.count) ▸ hcount⟩
  | gas h =>
    have hf := h.frame
    have hbeside' := congrArg State.BesideInRange hf
    refine ⟨?_, hbeside'.mpr hbeside, (congrArg (·.bd.marks) hf : t.bd.marks = s.bd.marks) ▸ hmarks,
      (congrArg (·.fl.count) hf : t.fl.count = s.fl.count) ▸ hcount⟩
    cases h with
    | accumulate =>
      obtain ⟨g1, g2, g3, g4, -⟩ := hrun
      exact ⟨g1, g2, g3, g4, Nat.min_le_left _ _⟩
    | sealPin | hand => simpa [State.RunInRange, handPurge] using hrun
    | lines | phase | repeated | send => exact hrun
  | zone h =>
    have hf := h.frame
    refine ⟨hrun' (congrArg (·.rs) hf) (congrArg (·.gc.acc) hf), ?_, (congrArg (·.bd.marks) hf : t.bd.marks = s.bd.marks) ▸ hmarks,
      (congrArg (·.fl.count) hf : t.fl.count = s.fl.count) ▸ hcount⟩
    cases h with
    | measure m _ hc hi => exact ⟨h1, hc h2, hi h3, h4, h5, h6, h7, h8⟩
    | window => exact hbeside
    | period => exact (congrArg State.BesideInRange (zcStages_frame s)).mpr hbeside
  | bank h =>
    have hf := h.frame
    refine ⟨hrun' (congrArg (·.rs) hf) (congrArg (·.gc.acc) hf), ?_, (congrArg (·.bd.marks) hf : t.bd.marks = s.bd.marks) ▸ hmarks, ?_⟩
    · cases h with
      | bank b _ _ _ _ _ _ ha hr => exact ⟨ha h1, h2, h3, hr h4, h5, h6, h7, h8⟩
      | mute => exact ⟨satSucc_le h1, h2, h3, h4, h5, h6, h7, h8⟩
      | unmute => exact ⟨Nat.zero_le _, h2, h3, h4, h5, h6, h7, h8⟩
      | join => exact hbeside
      | complete b a => simpa [State.BesideInRange, completeAnnounce, frameEnds] using hbeside.2
    · cases h with
      | mute => exact placeFault_count _ hcount
      | complete b a => simpa [completeAnnounce, frameEnds] using hcount
      | bank | unmute | join => exact hcount
  | share h =>
    have hf := h.frame
    refine ⟨hrun' (congrArg (·.rs) hf) (congrArg (·.gc.acc) hf), ?_, (congrArg (·.bd.marks) hf : t.bd.marks = s.bd.marks) ▸ hmarks,
      (congrArg (·.fl.count) hf : t.fl.count = s.fl.count) ▸ hcount⟩
    cases h with
    | budget b _ _ _ _ _ _ _ hc => exact ⟨h1, h2, h3, h4, hc h5, h6, h7, h8⟩
    | level | entry | stale | remove | hear | isolate => simpa [State.BesideInRange] using hbeside
  | port h =>
    refine ⟨by rw [h.frame]; exact hrun, ?_, by rw [h.frame]; exact hmarks, by rw [h.frame]; exact hcount⟩
    cases h with
    | lineError => exact ⟨h1, h2, h3, h4, h5, satSucc_le h6, h7, h8⟩
    | overrun => exact ⟨h1, h2, h3, h4, h5, h6, satSucc_le h7, h8⟩
    | hear | wait | replied | reply | readEvents => exact hbeside
  | load h =>
    rw [← withinRanges_iff]
    cases h with
    | powerOn => exact withinRanges_reset _ _ (Nat.zero_le _)
    | warm => exact withinRanges_reset _ _ hcount
    | endReset => exact (withinRanges_iff _).2 ⟨hrun, ⟨h1, h2, h3, h4, h5, h6, h7, List.length_replicate⟩, hmarks, hcount⟩
    | stage bytes _ hlen => exact (withinRanges_iff _).2 ⟨hrun, ⟨h1, h2, h3, h4, h5, h6, h7, hlen h8⟩, hmarks, hcount⟩
    | release => exact release_withinRanges ((withinRanges_iff _).2 ⟨hrun, hbeside, hmarks, hcount⟩)
    | refuse => exact (withinRanges_iff _).2 ⟨hrun, hbeside, hmarks, hcount⟩
  | choose => exact ⟨hrun, hbeside, hmarks, hcount⟩

end

/-- Settles O14, action by action; the clock lengthens no queue and raises no count. -/
theorem withinRangesKept : Obligations.WithinRangesKept := fun _ _ hs h =>
  step_keeps (P := State.WithinRanges) h hs
    (fun _ _ _ hu => by rw [withinRanges_iff] at hu ⊢; exact hu)
    (fun hu => by rw [withinRanges_iff] at hu ⊢; exact hu)
    fun _ _ hu h => (exec_acts h).keeps (fun _ _ _ hact hv => hact.withinRanges hv) hu

end Sys2Proof.Machine
end

section
/-!
PROOF. The run state and what RS holds beside it stay in agreement (R12, R16 to R19, R23, R26).
-/
namespace Sys2Proof.Machine

/-- Only actions of the run and of the loader change RS. -/
theorem Act.rs {c : Instr} {r : Option Request} {s t : State} (h : Act c r s t) :
    RunAct c r s t ∨ LoadAct c r s t ∨ t.rs = s.rs := by
  cases h with
  | run h => exact .inl h
  | fault h => rw [h.frame]; exact .inr (.inr rfl)
  | boat h => exact .inr (.inr (congrArg (·.rs) h.frame))
  | gas h => exact .inr (.inr (congrArg (·.rs) h.frame))
  | zone h => exact .inr (.inr (congrArg (·.rs) h.frame))
  | bank h => exact .inr (.inr (congrArg (·.rs) h.frame))
  | share h => exact .inr (.inr (congrArg (·.rs) h.frame))
  | port h => rw [h.frame]; exact .inr (.inr rfl)
  | load h => exact .inr (.inl h)
  | choose => exact .inr (.inr rfl)

@[simp] theorem release_rs (s : State) : (release s).rs = s.rs := by
  rw [release, commit_rs]; simp only [releaseBU]; split <;> rfl

/-- The loader leaves RS as it is, or as a reset leaves it. -/
theorem LoadAct.rs {c : Instr} {s t : State} (h : LoadAct c r s t) :
    (c = .powerOnReset ∨ c = .warmReset ∧ s.resetHeld = none) ∧ t.rs = Sequencer.reset ∨ t.rs = s.rs := by
  cases h with
  | powerOn h => exact .inl ⟨.inl h, rfl⟩
  | warm h hn => exact .inl ⟨.inr ⟨h, hn⟩, rfl⟩
  | release => exact .inr (release_rs s)
  | endReset | stage | refuse => exact .inr rfl

/-- Agreement is about RS alone. -/
theorem State.RunCoherent.of_rs {s t : State} (h : s.RunCoherent) (hrs : t.rs = s.rs) : t.RunCoherent :=
  ⟨hrs ▸ h.running, hrs ▸ h.idle, hrs ▸ h.starved, hrs ▸ h.aborting, hrs ▸ h.heldPrior, hrs ▸ h.heldCurrent⟩

theorem runCoherent_reset {s : State} (h : s.rs = Sequencer.reset) : s.RunCoherent := by
  constructor <;> simp [h, Sequencer.reset]

theorem runCoherent_enterIdle (s : State) : (enterIdle s).RunCoherent := by constructor <;> simp

theorem runCoherent_beginAbort (s : State) : (beginAbort s).RunCoherent := by constructor <;> simp

theorem runCoherent_startStep (n : StepRecord) (s : State) : (startStep n s).RunCoherent := by constructor <;> simp

/-- Outside HELD no prior state is kept (R19). -/
theorem State.RunCoherent.prior_of_ne_held {s : State} (h : s.RunCoherent) (hrun : s.rs.run ≠ .held) : s.rs.prior = none := by
  simpa [hrun] using h.heldPrior

theorem runCoherent_evaluate {s : State} (h : s.RunCoherent) : (evaluate s).RunCoherent :=
  evaluate_keeps State.RunCoherent
    (hdwell := fun _ _ h => ⟨h.running, h.idle, h.starved, h.aborting, h.heldPrior, h.heldCurrent⟩)
    (hlast := fun _ _ _ _ _ => runCoherent_enterIdle _)
    (hstarve := fun s r hrun _ hq h => by
      have hprior := h.prior_of_ne_held (by simp [hrun])
      constructor <;> simp [hq, hprior])
    (hnext := fun _ _ _ _ _ _ _ _ => runCoherent_startStep _ _) s h

theorem runCoherent_stepStart (n : StepRecord) (s : State) : (stepStart n s).RunCoherent :=
  runCoherent_evaluate (runCoherent_startStep n s)

section
variable {c : Instr} {r : Option Request} {s t : State}

theorem RunAct.runCoherent (h : RunAct c r s t) (hs : s.RunCoherent) : t.RunCoherent := by
  obtain ⟨h1, h2, h3, h4, h5, h6⟩ := id hs
  cases h with
  | hold hrun =>
    rcases hrun with hrun | hrun
    · constructor <;> simp [priorOf, hrun, h1 hrun]
    · constructor <;> simp [priorOf, hrun, h3 hrun]
  | endAbort => exact runCoherent_enterIdle _
  | abort => exact runCoherent_beginAbort _
  | abortAtOnce => exact runCoherent_enterIdle _
  | evaluate => exact runCoherent_evaluate hs
  | append raw _ _ hst hab => exact ⟨h1, h2, fun h => absurd h hst, fun h => absurd h hab, h5, h6⟩
  | clearQueue _ hrun =>
    exact ⟨h1, h2, fun h => ⟨(h3 h).1, rfl⟩, fun h => ⟨(h4 h).1, (h4 h).2.1, (h4 h).2.2.1, rfl⟩, h5, h6⟩
  | appendStart | start | resumeStart => exact runCoherent_stepStart _ _
  | resumeStarved _ hrun hprior hq =>
    have hcur : s.rs.current = none := by simpa [hprior] using h6 hrun
    constructor <;> simp [hcur, hq]
  | resume _ hrun hprior =>
    have hsome : s.rs.prior.isSome := h5.1 hrun
    have hcur : s.rs.current.isSome := by
      refine (h6 hrun).1 ?_
      match hp : s.rs.prior with
      | some .running => rfl
      | some .starved => exact absurd hp hprior
      | none => simp [hp] at hsome
    refine runCoherent_evaluate ?_
    obtain ⟨x, hx⟩ := restartTimeout_rs (leaveHeld .running s)
    constructor <;> simp [hx, hcur]
  | endPurge | order | dropOrder | tick | timeOut | dwell => exact ⟨h1, h2, h3, h4, h5, h6⟩

theorem Act.runCoherent (h : Act c r s t) (hs : s.RunCoherent) : t.RunCoherent := by
  rcases h.rs with h | h | h
  · exact h.runCoherent hs
  · rcases h.rs with ⟨-, h⟩ | h
    · exact runCoherent_reset h
    · exact hs.of_rs h
  · exact hs.of_rs h

end

/-- Settles O15: each action of the run keeps the agreement; an evaluation through its loop. -/
theorem runCoherentKept : Obligations.RunCoherentKept := fun _ _ hs h =>
  step_keeps (P := State.RunCoherent) h hs (fun _ _ _ hu => hu.of_rs rfl)
    (fun hu => ⟨hu.running, hu.idle, hu.starved, hu.aborting, hu.heldPrior, hu.heldCurrent⟩)
    fun _ _ hu h => (exec_acts h).keeps (fun _ _ _ hact hv => hact.runCoherent hv) hu

end Sys2Proof.Machine
end

section
/-!
PROOF. The small records keep their form (R75, R82, R130, R136, R137, R141, R150, R159, R162, R173, R178).
-/
namespace Sys2Proof.Machine

/-! ### The outbound queue and the pending events under the reactions -/

theorem commit_queue (s0 s1 : State) : (commit s0 s1).gc.queue = GasLine.all.foldl
    (fun q l => if s0.appliedFlow l = (shareReact s0 (boatReact s0 s1)).appliedFlow l then q else joinQueue l q) s1.gc.queue := by
  simp [commit, flowReact]

/-- The reactions keep each line in the outbound queue at most once (R75). -/
theorem commit_nodup (s0 : State) {s1 : State} (h : s1.gc.queue.Nodup) : (commit s0 s1).gc.queue.Nodup := by
  rw [commit_queue]
  refine List.foldlRecOn GasLine.all _ h fun q hq l _ => ?_
  split
  · exact hq
  · exact joinQueue_nodup l q hq

/-- The pending event set is in the table's order, each kind at most once (R178). -/
def State.EventsOrdered (s : State) : Prop := s.lp.events.Sublist EventKind.all

theorem raiseEvent_ordered (k : EventKind) (s : State) : (raiseEvent k s).EventsOrdered := List.filter_sublist

theorem commit_ordered (s0 : State) {s1 : State} (h : s1.EventsOrdered) : (commit s0 s1).EventsOrdered := by
  have hgated : (if s0.motion ≠ .gated ∧ s1.motion = .gated then raiseEvent .boatGated s1 else s1).EventsOrdered := by
    split
    · exact raiseEvent_ordered _ _
    · exact h
  have hb : (boatReact s0 s1).EventsOrdered := by
    unfold boatReact
    dsimp only
    split <;> exact hgated
  simpa [commit, State.EventsOrdered] using hb

theorem testArrival_ordered {s : State} (h : s.EventsOrdered) : (testArrival s).EventsOrdered := by
  rcases testArrival_cases s with h' | ⟨-, h'⟩ <;> rw [h']
  · exact h
  · exact raiseEvent_ordered _ _

theorem evaluateDroop_ordered {s : State} (h : s.EventsOrdered) : (evaluateDroop s).EventsOrdered := by
  rcases evaluateDroop_cases s with h' | ⟨_, _, _, h'⟩ <;> rw [h'] <;> exact h

theorem takeTarget_ordered (m : BoatPart) {s : State} (h : s.EventsOrdered) : (takeTarget m s).EventsOrdered :=
  testArrival_ordered (evaluateDroop_ordered h)

@[simp] theorem stepHandedOut_queue (r : StepRecord) (s : State) : (stepHandedOut r s).gc.queue = s.gc.queue := by
  rw [stepHandedOut, handOver_keeps (·.gc.queue) _ _ _ fun p u => by rw [takeTarget_gc],
    handOver_keeps (·.gc.queue) _ takeGas _ fun p u => rfl, handOver_keeps (·.gc.queue) _ takeThermal _ fun p u => rfl]
  rfl

/-- The queue and the events keep their form, and the abort purge is in progress exactly in ABORTING (R75, R82, R178). -/
def State.RunFormed (s : State) : Prop :=
  s.gc.queue.Nodup ∧ s.EventsOrdered ∧ s.gc.abortPurge = decide (s.rs.run = .aborting)

section
variable {s : State}

theorem runFormed_enterHeld (h : s.RunFormed) (hrun : s.rs.run ≠ .aborting) : (enterHeld s).RunFormed :=
  ⟨commit_nodup s h.1, commit_ordered s (raiseEvent_ordered _ _), by simp [h.2.2, hrun]⟩

theorem runFormed_enterIdle (h : s.gc.queue.Nodup) : (enterIdle s).RunFormed :=
  ⟨commit_nodup s h, commit_ordered s (raiseEvent_ordered _ _), by simp⟩

theorem runFormed_beginAbort (h : s.RunFormed) : (beginAbort s).RunFormed :=
  ⟨commit_nodup s h.1, commit_ordered s h.2.1, by simp⟩

theorem runFormed_leaveHeld (run : RunState) (h : s.RunFormed) (hrun : s.rs.run ≠ .aborting) (hrun' : run ≠ .aborting) :
    (leaveHeld run s).RunFormed :=
  ⟨commit_nodup s h.1, commit_ordered s h.2.1, by simp [h.2.2, hrun, hrun']⟩

theorem runFormed_startStep (n : StepRecord) (h : s.RunFormed) (hrun : s.rs.run ≠ .aborting) : (startStep n s).RunFormed := by
  refine ⟨?_, ?_, by simp [h.2.2, hrun]⟩
  · rw [startStep_eq]; exact commit_nodup s ((stepHandedOut_queue n s).symm ▸ h.1)
  · rw [startStep_eq]; exact commit_ordered s (raiseEvent_ordered _ _)

theorem runFormed_evaluate (h : s.RunFormed) : (evaluate s).RunFormed :=
  evaluate_keeps State.RunFormed (hdwell := fun _ _ h => h)
    (hlast := fun s r _ _ h => runFormed_enterIdle (s := finishStep r s) h.1)
    (hstarve := fun s r hrun _ _ h => ⟨h.1, raiseEvent_ordered _ _, by simp [h.2.2, hrun]⟩)
    (hnext := fun s r n rest hrun _ _ h =>
      runFormed_startStep n (s := { finishStep r s with rs.queue := rest })
        ⟨h.1, raiseEvent_ordered _ _, by simp [h.2.2, hrun]⟩ (by simp [hrun])) s h

end

section
variable {c : Instr} {r : Option Request} {s t : State}

theorem RunAct.runFormed (h : RunAct c r s t) (hs : s.RunFormed) : t.RunFormed := by
  have hstart (n : StepRecord) (u : State) (hu : u.RunFormed) (hrun : u.rs.run ≠ .aborting) : (stepStart n u).RunFormed :=
    runFormed_evaluate (runFormed_startStep n hu hrun)
  have hleave (hrun : s.rs.run = .held) : (leaveHeld .running s).RunFormed :=
    runFormed_leaveHeld _ hs (by simp [hrun]) (by simp)
  cases h with
  | hold hrun => exact runFormed_enterHeld hs (by rcases hrun with h | h <;> simp [h])
  | endAbort => exact runFormed_enterIdle hs.1
  | endPurge hrun => exact ⟨hs.1, hs.2.1, by simp [hrun]⟩
  | abort => exact runFormed_beginAbort hs
  | abortAtOnce b => exact runFormed_enterIdle (runFormed_beginAbort (s := { s with rs.abortOrdered := b }) hs).1
  | evaluate => exact runFormed_evaluate hs
  | appendStart raw n rest _ _ hrun => exact hstart n _ hs (by simp [hrun])
  | start n rest _ _ hrun => exact hstart n _ hs (by simp [hrun])
  | resumeStarved _ hrun => exact runFormed_leaveHeld _ hs (by simp [hrun]) (by simp)
  | resumeStart n rest _ hrun => exact hstart n _ (hleave hrun) (by simp)
  | resume _ hrun =>
    have : (restartTimeout (leaveHeld .running s)).RunFormed ↔ (leaveHeld .running s).RunFormed := by
      unfold restartTimeout; split <;> exact Iff.rfl
    exact runFormed_evaluate (this.2 (hleave hrun))
  | order | dropOrder | tick | timeOut | dwell | append | clearQueue => exact hs

theorem BoatAct.runFormed (h : BoatAct c r s t) (hs : s.RunFormed) : t.RunFormed := by
  obtain ⟨h1, h2, h3⟩ := hs
  have hcommit (s0 u : State) (hgc : u.gc = s.gc) (hev : u.EventsOrdered) (hrs : u.rs = s.rs) : (commit s0 u).RunFormed :=
    ⟨commit_nodup s0 (hgc ▸ h1), commit_ordered s0 hev, by simpa [hgc, hrs] using h3⟩
  cases h with
  | move raw => exact hcommit s _ (takeTarget_gc _ s) (takeTarget_ordered _ h2) (takeTarget_rs _ s)
  | stop s0 =>
    refine hcommit s0 _ ?_ ?_ (stopMove_rs s) <;> unfold stopMove <;> split
    · rfl
    · rfl
    · exact h2
    · exact h2
  | droop => exact hcommit s _ (evaluateDroop_gc s) (evaluateDroop_ordered h2) (evaluateDroop_rs s)
  | arrive => exact hcommit s _ (testArrival_gc s) (testArrival_ordered h2) (testArrival_rs s)
  | count | closeGate | openGate | pulse | rebase => exact hcommit s _ rfl h2 rfl
  | pins | reclear | marks | lastMark | phase => exact ⟨h1, h2, h3⟩

theorem GasAct.runFormed (h : GasAct c s t) (hs : s.RunFormed) : t.RunFormed := by
  obtain ⟨h1, h2, h3⟩ := hs
  cases h with
  | sealPin | hand => exact ⟨commit_nodup s h1, commit_ordered s h2, by simpa [handPurge] using h3⟩
  | repeated l => exact ⟨joinQueue_nodup l _ h1, h2, h3⟩
  | send l rest _ hq => exact ⟨(List.nodup_cons.1 (hq ▸ h1)).2, h2, h3⟩
  | lines | accumulate | phase => exact ⟨h1, h2, h3⟩

theorem ZoneAct.runFormed (h : ZoneAct c s t) (hs : s.RunFormed) : t.RunFormed := by
  cases h with
  | measure | window => exact hs
  | period =>
    unfold zcStages
    generalize hs1 : ({ s with zc.phase := .running Config.periodMs } : State) = s1
    have h1 : s1.RunFormed := hs1 ▸ hs
    have h2 : (rampAndDrive s1).RunFormed := by unfold rampAndDrive; dsimp only; split <;> exact h1
    have h3 : (demandStage (rampAndDrive s1)).RunFormed :=
      ⟨commit_nodup _ h2.1, commit_ordered _ h2.2.1, by simpa [demandStage, handDemand] using h2.2.2⟩
    exact h3

theorem BankAct.runFormed (h : BankAct c s t) (hs : s.RunFormed) : t.RunFormed := by
  cases h with
  | bank => exact hs
  | mute | unmute | join => exact ⟨hs.1, raiseEvent_ordered _ _, hs.2.2⟩
  | complete b a =>
    unfold completeAnnounce
    refine ⟨?_, ?_, ?_⟩
    · rw [raiseCheck_gc]; exact commit_nodup _ hs.1
    · rw [State.EventsOrdered, raiseCheck_lp]; exact commit_ordered _ hs.2.1
    · simpa [frameEnds] using hs.2.2

theorem ShareAct.runFormed (h : ShareAct c s t) (hs : s.RunFormed) : t.RunFormed := by
  cases h with
  | budget => exact hs
  | level | hear | isolate => exact ⟨commit_nodup s hs.1, raiseEvent_ordered _ _, by simpa using hs.2.2⟩
  | entry | stale | remove => exact ⟨commit_nodup s hs.1, commit_ordered s hs.2.1, by simpa using hs.2.2⟩

theorem release_runFormed (hsc : s.StartCoherent) (hrel : s.released = false) : (release s).RunFormed := by
  have hrun : s.rs.run = .idle := by rw [(hsc.quiet hrel).2.1]; rfl
  have hform : ∀ u : State, u.gc.queue = GasLine.all → u.EventsOrdered → u.gc.abortPurge = false → u.rs = s.rs →
      (commit s u).RunFormed := fun u hq he ha hrs =>
    ⟨commit_nodup s (by rw [hq]; decide), commit_ordered s he, by simp [ha, hrs, hrun]⟩
  unfold release
  refine hform _ ?_ ?_ ?_ ?_ <;> simp only [releaseBU] <;> split
  all_goals first | rfl | exact raiseEvent_ordered .ready _

theorem Act.runFormed (h : Act c r s t) (hsc : s.StartCoherent) (hs : s.RunFormed) : t.RunFormed := by
  cases h with
  | run h => exact h.runFormed hs
  | fault h =>
    cases h with
    | take => exact ⟨hs.1, raiseEvent_ordered _ _, hs.2.2⟩
    | clear => exact hs
  | boat h => exact h.runFormed hs
  | gas h => exact h.runFormed hs
  | zone h => exact h.runFormed hs
  | bank h => exact h.runFormed hs
  | share h => exact h.runFormed hs
  | port h =>
    cases h with
    | readEvents => exact ⟨hs.1, List.nil_sublist _, hs.2.2⟩
    | hear | lineError | overrun | wait | replied | reply => exact hs
  | load h =>
    cases h with
    | powerOn | warm => exact ⟨List.nodup_nil, List.nil_sublist _, rfl⟩
    | release hrel => exact release_runFormed hsc hrel
    | endReset | stage | refuse => exact hs
  | choose => exact hs

/-! ### The link, the slot, the summary set and the collection -/

/-- A link that differs in nothing but its timers, its slots and ISOLATED keeps its form. -/
theorem Bank.Formed.of_same {b b' : Bank} (h : b.Formed) (hm : b'.mute = b.mute) (ha : b'.abandons = b.abandons)
    (ht : b'.attempt = b.attempt) (hl : b'.line = b.line) : b'.Formed := by
  unfold Bank.Formed
  rw [hm, ha, ht, hl]
  exact h

/-- The release sets no more of the link than its phase, its timers and its idle count (R139). -/
theorem release_bl_kept (s : State) : (release s).bl.mute = s.bl.mute ∧ (release s).bl.abandons = s.bl.abandons ∧
    (release s).bl.attempt = s.bl.attempt := by
  simp only [release, releaseBU, commit_bl_mute, commit_bl_abandons, commit_bl_attempt]
  split <;> exact ⟨rfl, rfl, rfl⟩

theorem Act.bankFormed (h : Act c r s t) (hsc : s.StartCoherent) (hs : s.bl.Formed) : t.bl.Formed := by
  have hsame (hm : t.bl.mute = s.bl.mute) (ha : t.bl.abandons = s.bl.abandons) (ht : t.bl.attempt = s.bl.attempt)
      (hl : t.bl.line = s.bl.line) : t.bl.Formed := hs.of_same hm ha ht hl
  have hframe {f g : State → State} (hfg : f t = g s) (hf : (f t).bl.Formed ↔ t.bl.Formed) (hg : (g s).bl.Formed ↔ s.bl.Formed) :
      t.bl.Formed := by rw [← hf, hfg, hg]; exact hs
  cases h with
  | run h => exact hframe (f := State.besideRun) (g := State.besideRun) h.besideRun Iff.rfl Iff.rfl
  | fault h => rw [h.frame]; exact hs
  | boat h =>
    have hf := h.frame
    exact hsame (congrArg (·.bl.mute) hf) (congrArg (·.bl.abandons) hf) (congrArg (·.bl.attempt) hf) (congrArg (·.bl.line) hf)
  | gas h =>
    have hf := h.frame
    exact hsame (congrArg (·.bl.mute) hf) (congrArg (·.bl.abandons) hf) (congrArg (·.bl.attempt) hf) (congrArg (·.bl.line) hf)
  | zone h =>
    have hf := h.frame
    exact hsame (congrArg (·.bl.mute) hf) (congrArg (·.bl.abandons) hf) (congrArg (·.bl.attempt) hf) (congrArg (·.bl.line) hf)
  | bank h =>
    cases h with
    | bank b _ _ _ _ _ hform => exact hform hs
    | mute a _ _ h8 => exact ⟨(decide_eq_true h8).symm, fun _ => rfl, fun h => (by cases h)⟩
    | unmute hm =>
      have hn : s.bl.attempt = none := hs.2.1 hm
      exact ⟨rfl, fun _ => hn, fun h => by simp [hn] at h⟩
    | join => exact hs
    | complete b a _ ha _ =>
      have hmute : s.bl.mute = false := by
        cases hmu : s.bl.mute
        · rfl
        · rw [hs.2.1 hmu] at ha; cases ha
      exact ⟨by simp [completeAnnounce, frameEnds, hmute, Config.abandonLimit], by simp [completeAnnounce], by simp [completeAnnounce]⟩
  | share h => cases h <;> exact hsame (by simp) (by simp) (by simp) (by simp)
  | port h => rw [h.frame]; exact hs
  | load h =>
    have hreset : Bank.reset.Formed := ⟨rfl, fun h => (by cases h), fun h => (by cases h)⟩
    cases h with
    | powerOn | warm => exact hreset
    | release hrel =>
      have hbl : s.bl = Bank.reset := (hsc.quiet hrel).2.2.2.2.2.2.2
      obtain ⟨hm, ha, ht⟩ := release_bl_kept s
      rw [hbl] at hm ha ht
      exact ⟨by rw [hm, ha]; rfl, fun _ => ht, fun h => by rw [ht] at h; cases h⟩
    | endReset | stage | refuse => exact hs
  | choose => exact hs

/-- The input slot, the summary set and the collection in progress keep their form (R150, R159, R173). -/
def State.RecordsFormed (s : State) : Prop :=
  (s.lp.slot.isSome → s.lp.reply.isSome) ∧ s.fl.summary.Sublist FaultKind.all ∧
    ∀ k, s.bu.collection = some k → k.expected ≠ []

theorem placeFault_summary (x : FaultRecord) (f : FaultLog) (h : f.summary.Sublist FaultKind.all) :
    (placeFault x f).summary.Sublist FaultKind.all := by
  unfold placeFault
  dsimp only
  split
  · exact h
  · split
    · exact h
    · exact List.filter_sublist

@[simp] theorem release_fl (s : State) : (release s).fl = s.fl := by
  rw [release, commit_fl]; simp only [releaseBU]; split <;> rfl

theorem release_records (s : State) : (release s).lp.slot = s.lp.slot ∧ (release s).lp.reply = s.lp.reply ∧
    (release s).bu.collection = s.bu.collection := by
  simp only [release, releaseBU, commit_lp_slot, commit_lp_reply, commit_bu_collection]
  split <;> exact ⟨rfl, rfl, rfl⟩

theorem Act.recordsFormed (h : Act c r s t) (hs : s.RecordsFormed) : t.RecordsFormed := by
  have hsame (hlp : t.lp.slot = s.lp.slot ∧ t.lp.reply = s.lp.reply) (hfl : t.fl = s.fl)
      (hbu : t.bu.collection = s.bu.collection) : t.RecordsFormed := by
    unfold State.RecordsFormed
    rw [hlp.1, hlp.2, hfl, hbu]
    exact hs
  obtain ⟨hslot, hsum, hcol⟩ := id hs
  cases h with
  | run h =>
    have hf := h.besideRun
    exact hsame ⟨congrArg (·.lp.slot) hf, congrArg (·.lp.reply) hf⟩ (congrArg (·.fl) hf) (congrArg (·.bu.collection) hf)
  | fault h =>
    cases h with
    | take => exact ⟨hslot, placeFault_summary _ _ hsum, hcol⟩
    | clear => exact ⟨hslot, List.nil_sublist _, hcol⟩
  | boat h =>
    have hf := h.frame
    exact hsame ⟨congrArg (·.lp.slot) hf, congrArg (·.lp.reply) hf⟩ (congrArg (·.fl) hf) (congrArg (·.bu.collection) hf)
  | gas h =>
    have hf := h.frame
    exact hsame ⟨congrArg (·.lp.slot) hf, congrArg (·.lp.reply) hf⟩ (congrArg (·.fl) hf) (congrArg (·.bu.collection) hf)
  | zone h =>
    have hf := h.frame
    exact hsame ⟨congrArg (·.lp.slot) hf, congrArg (·.lp.reply) hf⟩ (congrArg (·.fl) hf) (congrArg (·.bu.collection) hf)
  | bank h =>
    cases h with
    | bank | unmute | join => exact hs
    | mute => rw [enterMute_eq]; exact ⟨hslot, placeFault_summary _ _ hsum, hcol⟩
    | complete =>
      refine hsame ?_ ?_ ?_ <;> simp [completeAnnounce, frameEnds]
  | share h =>
    have hf := h.frame
    have hlp : t.lp.slot = s.lp.slot ∧ t.lp.reply = s.lp.reply := ⟨congrArg (·.lp.slot) hf, congrArg (·.lp.reply) hf⟩
    have hfl : t.fl = s.fl := congrArg (·.fl) hf
    cases h with
    | budget b _ _ _ _ _ _ _ _ hk =>
      refine ⟨hslot, hsum, fun k hb he => ?_⟩
      obtain ⟨k0, hk0, he0⟩ := hk k hb he
      exact hcol k0 hk0 he0
    | level | hear | isolate | entry | stale | remove => exact hsame hlp hfl (by simp)
  | port h =>
    cases h with
    | wait e hr => exact ⟨fun _ => hr, hsum, hcol⟩
    | replied => exact ⟨fun h => (by cases h), hsum, hcol⟩
    | reply => exact ⟨fun _ => rfl, hsum, hcol⟩
    | hear | lineError | overrun | readEvents => exact hs
  | load h =>
    cases h with
    | powerOn => exact ⟨fun h => (by cases h), List.nil_sublist _, fun k hk => (by cases hk)⟩
    | warm => exact ⟨fun h => (by cases h), hsum, fun k hk => (by cases hk)⟩
    | release =>
      obtain ⟨h1, h2, h3⟩ := release_records s
      exact hsame ⟨h1, h2⟩ (release_fl s) h3
    | endReset | stage | refuse => exact hs
  | choose => exact hs

/-! ### The order that waits (log 35) -/

@[simp] theorem evaluate_abortOrdered (s : State) : (evaluate s).rs.abortOrdered = s.rs.abortOrdered :=
  evaluate_keeps (·.rs.abortOrdered = s.rs.abortOrdered)
    (hdwell := fun _ _ h => h) (hlast := fun _ _ _ _ h => by simpa using h) (hstarve := fun _ _ _ _ _ h => by simpa using h)
    (hnext := fun _ _ _ _ _ _ _ h => by simpa using h) s rfl
@[simp] theorem stepStart_abortOrdered (n : StepRecord) (s : State) : (stepStart n s).rs.abortOrdered = s.rs.abortOrdered := by
  rw [stepStart, evaluate_abortOrdered, startStep_rs]

/-- An order begins to wait where a fault of this command gives it, and nowhere else. -/
theorem RunAct.abortOrdered (h : RunAct c r s t) (ht : t.rs.abortOrdered = true) :
    s.rs.abortOrdered = true ∨ s.orderMeets = true ∨ c = .bdEvaluation := by
  cases h with
  | order _ _ hm => exact .inr hm
  | dropOrder h => exact .inl h
  | abort b _ hb =>
    rw [beginAbort_rs] at ht
    rcases hb with hb | hb
    · exact .inl (hb ▸ ht)
    · subst hb; cases ht
  | abortAtOnce b _ hb =>
    rw [enterIdle_rs, beginAbort_rs] at ht
    rcases hb with hb | hb
    · exact .inl (hb ▸ ht)
    · subst hb; cases ht
  | hold => exact .inl (by simpa using ht)
  | endAbort => exact .inl (by simpa using ht)
  | evaluate => exact .inl (by simpa using ht)
  | appendStart | start => exact .inl (by simpa using ht)
  | resumeStarved | resumeStart => exact .inl (by simpa using ht)
  | resume =>
    obtain ⟨x, hx⟩ := restartTimeout_rs (leaveHeld .running s)
    rw [evaluate_abortOrdered, hx] at ht
    exact .inl (by simpa using ht)
  | endPurge | tick | timeOut | dwell | append | clearQueue => exact .inl ht

theorem Act.abortOrdered (h : Act c r s t) (ht : t.rs.abortOrdered = true) :
    s.rs.abortOrdered = true ∨ s.orderMeets = true ∨ c = .bdEvaluation := by
  rcases h.rs with h | h | h
  · exact h.abortOrdered ht
  · rcases h.rs with ⟨-, h⟩ | h
    · rw [h] at ht; cases ht
    · exact .inl (h ▸ ht)
  · exact .inl (h ▸ ht)

/-- In a command other than a BD evaluation an order begins to wait only for a command that it may meet (log 35). -/
theorem exec_order_meets (h : exec c s = .next t) (hc : c ≠ .bdEvaluation) (hs : s.rs.abortOrdered = false)
    (ht : t.rs.abortOrdered = true) : t.orderMeets = true := by
  have hkeep := (exec_acts h).keeps (P := fun u => u.pending = s.pending ∧ (u.rs.abortOrdered = true → u.orderMeets = true))
    (fun r u v hact hu => by
      have hpend : v.pending = u.pending := hact.outside.1
      refine ⟨hpend.trans hu.1, fun hv => ?_⟩
      have : v.orderMeets = u.orderMeets := by simp [State.orderMeets, hpend]
      rw [this]
      rcases hact.abortOrdered hv with h | h | h
      · exact hu.2 h
      · exact h
      · exact absurd h hc)
    ⟨rfl, fun h => by rw [hs] at h; cases h⟩
  exact hkeep.2 ht

end

/-- Once the waiting order is taken none waits (R162). -/
@[simp] theorem takeWaitingOrder_abortOrdered (s : State) : (takeWaitingOrder s).rs.abortOrdered = false := by
  unfold takeWaitingOrder
  split
  · unfold takeAbortOrder
    split
    · rcases enterAborting_cases { s with rs.abortOrdered := false } with h | h <;> rw [h] <;> simp
    · rfl
  · next h => simpa using h

/-- Once an order is taken the part is in ABORTING, or in IDLE again (R23). -/
theorem takeAbortOrder_abortOrdered (s : State) : (takeAbortOrder s).rs.abortOrdered = s.rs.abortOrdered := by
  unfold takeAbortOrder
  split
  · rcases enterAborting_cases s with h | h <;> rw [h] <;> simp
  · rfl

/-- BD's own order is taken, or waits for a command that it may meet (R162, logs 13 and 35). -/
theorem settleOrder_order {s : State} (h : (settleOrder s).rs.abortOrdered = true) : (settleOrder s).orderMeets = true := by
  unfold settleOrder giveAbortOrder at h ⊢
  split at h
  · split at h
    · next hmeets =>
      dsimp only at h ⊢
      split at h
      · rw [takeAbortOrder_abortOrdered] at h; cases h
      · next hord hrace =>
        rw [if_pos hord, if_pos hmeets, if_neg hrace]
        simp only [Bool.and_eq_true] at hmeets
        exact hmeets.1
    · rw [takeAbortOrder_abortOrdered] at h; cases h
  · next hord => exact absurd h hord

/-- The commands that an order may meet take it after they have run (log 35). -/
theorem exec_of_meetsOrder {c : Instr} (h : meetsOrder c = true) :
    ∃ command, ∀ s, exec c s = .next (beforeOrder command s) := by
  cases c with
  | dwellExpiry | zcPeriod | gcPeriod | bdEvaluation | faultClear | runResume | replyEnd => exact ⟨_, fun _ => rfl⟩
  | _ => cases h

/-- A command that an order has waited for leaves none waiting (log 35). -/
theorem exec_order_taken {c : Instr} {s t : State} (h : exec c s = .next t) (hs : s.rs.abortOrdered = true)
    (hc : meetsOrder c = true) : t.rs.abortOrdered = false := by
  obtain ⟨command, hcommand⟩ := exec_of_meetsOrder hc
  rw [hcommand, beforeOrder, if_pos hs, Host.Outcome.next.injEq] at h
  rw [← h, takeWaitingOrder_abortOrdered]

theorem bdEvaluation_order {s t : State} (h : exec .bdEvaluation s = .next t) (hs : s.rs.abortOrdered = false)
    (ht : t.rs.abortOrdered = true) : t.orderMeets = true := by
  have ht' : bdEvaluates s = t := by
    rw [exec, execBdEvaluation, beforeOrder_of_none _ hs, Host.Outcome.next.injEq] at h
    exact h
  rw [← ht'] at ht ⊢
  unfold bdEvaluates at ht ⊢
  split at ht
  · next hrel =>
    simp only [hs] at ht ⊢
    rw [if_pos hrel]
    exact settleOrder_order ht
  · rw [hs] at ht; cases ht

/-- An order waits after a step only for the command that is next (log 35). -/
theorem step_order {s t : State} (h : step s = .next t) (hs : s.rs.abortOrdered = true → s.orderMeets = true)
    (ht : t.rs.abortOrdered = true) : t.orderMeets = true := by
  unfold step at h
  split at h
  · next c rest hp =>
    cases hord : s.rs.abortOrdered with
    | true =>
      have hc : meetsOrder c = true := by simpa [State.orderMeets, hp] using hs hord
      rw [exec_order_taken h (s := { s with pending := rest }) hord hc] at ht; cases ht
    | false =>
      by_cases hc : c = .bdEvaluation
      · exact bdEvaluation_order (s := { s with pending := rest }) (hc ▸ h) hord ht
      · exact exec_order_meets (s := { s with pending := rest }) h hc hord ht
  · next hp =>
    have hnone : s.rs.abortOrdered = false := by
      cases hord : s.rs.abortOrdered with
      | true => have := hs hord; simp [State.orderMeets, hp] at this
      | false => rfl
    cases h
    have : (idleStep s).rs.abortOrdered = s.rs.abortOrdered := by
      unfold idleStep
      split
      · split <;> rfl
      · rfl
      · rfl
    rw [this, hnone] at ht; cases ht

/-- Everything of the form but the waiting order, action by action. -/
def State.Formed (s : State) : Prop := s.RunFormed ∧ s.bl.Formed ∧ s.RecordsFormed

theorem State.FormKept.formed {s : State} (h : s.FormKept) : s.Formed :=
  ⟨⟨h.outbound, h.events, h.abortPurge⟩, ⟨h.mute, h.silent, h.line⟩, ⟨h.slot, h.summary, h.collection⟩⟩

theorem advance_formed {s : State} (h : s.Formed) : (advance s).Formed := by
  obtain ⟨⟨hout, hev, hpurge⟩, ⟨hmute, hsilent, hline⟩, hslot, hsum, hcol⟩ := h
  refine ⟨⟨hout, hev, hpurge⟩, ⟨hmute, hsilent, fun h => ?_⟩, hslot, hsum, fun k hk => ?_⟩
  · have hbusy : s.bl.line = .busy := hline h
    simp [advance, hbusy, tickLineIdle]
  · obtain ⟨k0, hk0, rfl⟩ : ∃ k0, s.bu.collection = some k0 ∧ _ = k := Option.map_eq_some_iff.1 hk
    exact hcol k0 hk0

/-- Settles O17: each action keeps the form of the records it touches; the waiting order is followed through the whole command. -/
theorem formKeptKept : Obligations.FormKeptKept := by
  intro s t hsc hs h
  obtain ⟨⟨hout, hev, hpurge⟩, ⟨hmute, hsilent, hline⟩, hslot, hsum, hcol⟩ : t.Formed :=
    step_keeps_acts (P := State.Formed) h hsc hs.formed (fun _ _ _ hu => hu)
      (fun _ => advance_formed)
      (fun _ _ _ _ hact hsc' hu => ⟨hact.runFormed hsc' hu.1, hact.bankFormed hsc' hu.2.1, hact.recordsFormed hu.2.2⟩)
  exact ⟨hmute, hsilent, hline, step_order h hs.order, hslot, hout, hev, hsum, hcol, hpurge⟩

end Sys2Proof.Machine
end

section
/-!
SUPPORT. What the reactions to a change do, said once for every action (R63, R75, R90, R91, R120, R121): the held grants, the ANNOUNCE slot,
the cap-seen flag, the outbound queue, the pulse interval timer and the pending events.
-/
namespace Sys2Proof.Machine

open Relation

/-! ### A commit, reaction by reaction -/

@[simp] theorem commit_motion (s0 s : State) : (commit s0 s).motion = s.motion := by simp [State.motion]

@[simp] theorem commit_pulsing (s0 s : State) : (commit s0 s).pulsing = s.pulsing := by simp [State.pulsing]

/-- The pulse interval timer restarts where pulsing becomes allowed and stops where it ceases to be (R91). -/
theorem commit_pulse (s0 s : State) : (commit s0 s).bd.pulse =
    if s.pulsing then if s0.pulsing then s.bd.pulse else some 0 else if s0.pulsing then none else s.bd.pulse := by
  have h : (commit s0 s).bd.pulse = (boatReact s0 s).bd.pulse := by simp [commit]
  rw [h]
  unfold boatReact
  dsimp only
  have hgated : (if s0.motion ≠ .gated ∧ s.motion = .gated then raiseEvent .boatGated s else s).bd = s.bd := by split <;> rfl
  cases s0.pulsing <;> cases s.pulsing <;> simp [hgated]

theorem commit_events (s0 s : State) : (commit s0 s).lp.events = (boatReact s0 s).lp.events := by simp [commit]

theorem boatReact_events (s0 s : State) : (boatReact s0 s).lp.events =
    if s0.motion ≠ .gated ∧ s.motion = .gated then addEvent .boatGated s.lp.events else s.lp.events := by
  unfold boatReact
  dsimp only
  split <;> split <;> rfl

theorem mem_addEvent {k e : EventKind} {set : List EventKind} : e ∈ addEvent k set ↔ e = k ∨ e ∈ set := by
  have : e ∈ EventKind.all := by cases e <;> decide
  simp [addEvent, this]

theorem mem_raiseEvent {k e : EventKind} {s : State} : e ∈ (raiseEvent k s).lp.events ↔ e = k ∨ e ∈ s.lp.events := mem_addEvent

/-- The cap-seen flag: set where the heater grant falls and leaves the cap active (R63). -/
theorem commit_capSeen (s0 s : State) : (commit s0 s).zc.capSeen =
    (s.zc.capSeen || decide ((commit s0 s).bu.heldHeater < s.bu.heldHeater) && (commit s0 s).capActive) := by
  have hcap : (commit s0 s).zc.capSeen = (shareReact s0 (boatReact s0 s)).zc.capSeen := by simp [commit]
  have hact : (commit s0 s).capActive = (shareReact s0 (boatReact s0 s)).capActive := by simp [commit, State.capActive]
  have hheld : (commit s0 s).bu.heldHeater = (shareReact s0 (boatReact s0 s)).bu.heldHeater := by simp [commit]
  rw [hcap, hact, hheld]
  unfold shareReact
  split
  · simp
  · simp [lowerGrants, State.capActive]

theorem appliedFlow_commit (s0 s : State) (l : GasLine) :
    (commit s0 s).appliedFlow l = (shareReact s0 (boatReact s0 s)).appliedFlow l := by
  cases l <;> simp [commit, State.appliedFlow, State.line, State.oxidantPermit, State.capSealed, State.boatFullIn,
    State.oxidantEnabled]

theorem mem_commit_queue {s0 s : State} {l : GasLine} : l ∈ (commit s0 s).gc.queue ↔
    s0.appliedFlow l ≠ (commit s0 s).appliedFlow l ∨ l ∈ s.gc.queue := by
  have hmem (p : GasLine → Prop) [DecidablePred p] (ls q : List GasLine) :
      l ∈ ls.foldl (fun q l => if p l then q else joinQueue l q) q ↔ (l ∈ ls ∧ ¬ p l) ∨ l ∈ q := by
    induction ls generalizing q with
    | nil => simp
    | cons a ls ih =>
      rw [List.foldl_cons, ih, List.mem_cons]
      by_cases hp : p a
      · rw [if_pos hp]
        constructor
        · rintro (h | h) <;> tauto
        · rintro (⟨rfl | h, h'⟩ | h) <;> tauto
      · rw [if_neg hp, mem_joinQueue]
        constructor
        · rintro (h | rfl | h) <;> tauto
        · rintro (⟨rfl | h, h'⟩ | h) <;> tauto
  rw [commit_queue, hmem, appliedFlow_commit]
  have hall : l ∈ GasLine.all := by cases l <;> decide
  tauto

/-! ### Reactions to an action -/

/-- What one action, with the reactions to it, does to everything the reactions set. -/
structure Reacts (c : Instr) (r : Option Request) (s t : State) : Prop where
  held : c ≠ .transmitCompletion → (t.shareInputs = s.shareInputs ∧ ∀ p, t.heldGrant p = s.heldGrant p) ∨
    (∀ p, t.heldGrant p = min (s.heldGrant p) (t.computedGrant p)) ∧ t.RaisePending
  slot : c ≠ .transmitCompletion → s.bl.announceSlot = true → t.bl.announceSlot = true
  cap : (t.zc.capSeen = (s.zc.capSeen || decide (t.bu.heldHeater < s.bu.heldHeater) && t.capActive) ∧
    t.zc.demand = s.zc.demand) ∨ c = .zcPeriod ∧ t.zc.capSeen = t.capActive
  flow : ∀ l, s.appliedFlow l ≠ t.appliedFlow l → l ∈ t.gc.queue
  queue : c ≠ .setpointRecordSend → ∀ l ∈ s.gc.queue, l ∈ t.gc.queue
  pulsing : t.pulsing = true → t.bd.pulse = some 0 ∨ s.pulsing = true ∧ t.bd.pulse = s.bd.pulse
  still : t.pulsing = false → t.bd.pulse = none ∨ s.pulsing = false ∧ t.bd.pulse = s.bd.pulse
  gated : t.motion = .gated → s.motion ≠ .gated → .boatGated ∈ t.lp.events
  events : r ≠ some .eventRead → ∀ k ∈ s.lp.events, k ∈ t.lp.events

/-- A chain of actions with their reactions. -/
abbrev Reaction (c : Instr) (r : Option Request) : State → State → Prop := ReflTransGen (Reacts c r)

section
variable {c : Instr} {r : Option Request} {s t u : State}

theorem Reacts.reaction (h : Reacts c r s t) : Reaction c r s t := .single h

/-- A change of its own that the reactions follow in nothing. -/
theorem Reacts.of_change (hm : t.motion = s.motion) (hp : t.pulsing = s.pulsing)
    (hin : t.shareInputs = s.shareInputs) (hf : ∀ l, t.appliedFlow l = s.appliedFlow l)
    (hheld : t.bu.heldHeater = s.bu.heldHeater ∧ t.bu.heldPurge = s.bu.heldPurge)
    (hslot : s.bl.announceSlot = true → t.bl.announceSlot = true)
    (hcap : t.zc.capSeen = s.zc.capSeen ∧ t.zc.demand = s.zc.demand)
    (hq : c ≠ .setpointRecordSend → ∀ l ∈ s.gc.queue, l ∈ t.gc.queue)
    (hpulse : t.bd.pulse = s.bd.pulse)
    (hev : r ≠ some .eventRead → ∀ k ∈ s.lp.events, k ∈ t.lp.events) : Reacts c r s t where
  held _ := .inl ⟨hin, fun p => by cases p <;> [exact hheld.1; exact hheld.2]⟩
  slot _ := hslot
  cap := .inl (by simp [hcap, hheld])
  flow l h := absurd (hf l).symm h
  queue := hq
  pulsing h := .inr ⟨hp ▸ h, hpulse⟩
  still h := .inr ⟨hp ▸ h, hpulse⟩
  gated h h' := absurd (hm ▸ h) h'
  events := hev

/-- What the reactions set, and the demand (R63, R75, R91, R120, R121). -/
def State.reactionsSet (s : State) :=
  (s.bu.heldHeater, s.bu.heldPurge, s.bl.announceSlot, s.zc.capSeen, s.zc.demand, s.gc.queue, s.bd.pulse, s.lp.events)

/-- What the reactions follow (R71, R88, R91, R114). -/
def State.reactionsFollow (s : State) := (s.motion, s.pulsing, s.shareInputs, s.appliedFlow)

/-- An action that changes nothing the reactions follow and nothing they set. -/
theorem Reacts.of_silent (h : (t.reactionsFollow, t.reactionsSet) = (s.reactionsFollow, s.reactionsSet)) : Reacts c r s t := by
  simp only [State.reactionsFollow, State.reactionsSet, Prod.mk.injEq] at h
  obtain ⟨⟨hm, hp, hin, hf⟩, hh, hh', hslot, hcap, hdem, hq, hpulse, hev⟩ := h
  exact .of_change hm hp hin (congrFun hf) ⟨hh, hh'⟩ (fun h => hslot ▸ h) ⟨hcap, hdem⟩ (fun _ _ h => hq ▸ h) hpulse
    fun _ _ h => hev ▸ h

/-- The held grants and the raise check after a change (R120, R121). -/
theorem commit_held (s u : State) :
    (s.shareInputs = u.shareInputs ∧ ∀ p, (commit s u).heldGrant p = u.heldGrant p) ∨
    (∀ p, (commit s u).heldGrant p = min (u.heldGrant p) ((commit s u).computedGrant p)) ∧ (commit s u).RaisePending := by
  by_cases hin : s.shareInputs = u.shareInputs
  · exact .inl ⟨hin, fun p => by rw [commit_heldGrant, if_pos hin]⟩
  · refine .inr ⟨fun p => by rw [commit_heldGrant, if_neg hin, commit_computedGrant], fun h => ?_⟩
    have hr : commit s u = flowReact s (raiseCheck (lowerGrants (boatReact s u))) := by
      rw [commit, shareReact, if_neg (by simpa using hin)]
    have hg (p : Supply) : (commit s u).computedGrant p = (lowerGrants (boatReact s u)).computedGrant p :=
      computedGrant_congr (by simp) p
    rw [hg, hg, hr] at h
    rw [hr, flowReact_bl, raiseCheck_announceSlot, Bool.or_eq_true, decide_eq_true_eq]
    exact .inr (by simpa using h)

/-- The pulse interval timer after a change (R91). -/
theorem commit_pulses (hpulse : u.bd.pulse = s.bd.pulse ∨ u.bd.pulse = (if u.pulsing then some 0 else none) ∨
    s.pulsing = true ∧ u.bd.pulse = some 0) :
    (u.pulsing = true → (commit s u).bd.pulse = some 0 ∨ s.pulsing = true ∧ (commit s u).bd.pulse = s.bd.pulse) ∧
    (u.pulsing = false → (commit s u).bd.pulse = none ∨ s.pulsing = false ∧ (commit s u).bd.pulse = s.bd.pulse) := by
  rw [commit_pulse]
  cases hs : s.pulsing <;> cases hu : u.pulsing <;> simp [hs, hu] at hpulse ⊢
  · tauto
  · tauto

/-- No pending event is lost by a change, and an entry to GATED leaves its own (R90, R178). -/
theorem commit_keeps_events (hev : ∀ k ∈ s.lp.events, k ∈ u.lp.events) :
    ((commit s u).motion = .gated → s.motion ≠ .gated → .boatGated ∈ (commit s u).lp.events) ∧
    ∀ k ∈ s.lp.events, k ∈ (commit s u).lp.events := by
  rw [commit_motion, commit_events, boatReact_events]
  refine ⟨fun h h' => ?_, fun k h => ?_⟩
  · rw [if_pos ⟨h', h⟩]
    exact mem_addEvent.2 (.inl rfl)
  · split
    · exact mem_addEvent.2 (.inr (hev k h))
    · exact hev k h

/-- An action with its reactions, one that changes itself what they set. -/
theorem Reacts.of_commit_change (hheld : u.bu.heldHeater = s.bu.heldHeater ∧ u.bu.heldPurge = s.bu.heldPurge)
    (hslot : s.bl.announceSlot = true → u.bl.announceSlot = true)
    (hcap : u.zc.capSeen = s.zc.capSeen ∧ u.zc.demand = s.zc.demand)
    (hq : ∀ l ∈ s.gc.queue, l ∈ u.gc.queue)
    (hpulse : u.bd.pulse = s.bd.pulse ∨ u.bd.pulse = (if u.pulsing then some 0 else none) ∨
      s.pulsing = true ∧ u.bd.pulse = some 0)
    (hev : ∀ k ∈ s.lp.events, k ∈ u.lp.events) : Reacts c r s (commit s u) where
  held _ := by
    have hu (p : Supply) : u.heldGrant p = s.heldGrant p := by cases p <;> [exact hheld.1; exact hheld.2]
    rcases commit_held s u with ⟨hin, h⟩ | ⟨h, hraise⟩
    · exact .inl ⟨by simp [hin], fun p => (h p).trans (hu p)⟩
    · exact .inr ⟨fun p => by rw [h, hu], hraise⟩
  slot _ h := commit_announceSlot s u (hslot h)
  cap := .inl ⟨by rw [commit_capSeen, hcap.1, hheld.1], by rw [commit_zc_demand, hcap.2]⟩
  flow l h := mem_commit_queue.2 (.inl h)
  queue _ l h := mem_commit_queue.2 (.inr (hq l h))
  pulsing h := (commit_pulses hpulse).1 (commit_pulsing s u ▸ h)
  still h := (commit_pulses hpulse).2 (commit_pulsing s u ▸ h)
  gated := (commit_keeps_events hev).1
  events _ := (commit_keeps_events hev).2

/-- An action with its reactions. -/
theorem Reacts.of_commit (h : u.reactionsSet = s.reactionsSet) : Reacts c r s (commit s u) := by
  simp only [State.reactionsSet, Prod.mk.injEq] at h
  obtain ⟨hh, hh', hslot, hcap, hdem, hq, hpulse, hev⟩ := h
  exact .of_commit_change ⟨hh, hh'⟩ (fun h => hslot ▸ h) ⟨hcap, hdem⟩ (fun _ h => hq ▸ h) (.inl hpulse) fun _ h => hev ▸ h

/-- A raised event joins the pending ones (R178). -/
theorem Reacts.raised (k : EventKind) : Reacts c r s (raiseEvent k s) :=
  .of_change rfl rfl rfl (fun _ => rfl) ⟨rfl, rfl⟩ id ⟨rfl, rfl⟩ (fun _ _ => id) rfl fun _ _ h => mem_raiseEvent.2 (.inr h)

end

end Sys2Proof.Machine
end

section
/-!
SUPPORT. Every action of a part that is not reset is a chain of changes with their reactions (R63, R75, R90, R91, R120, R121).
-/
namespace Sys2Proof.Machine

open Relation

section
variable {c : Instr} {r : Option Request} {s t : State}

/-! ### The run -/

theorem enterHeld_reacts (s : State) : Reacts c r s (enterHeld s) :=
  .of_commit_change (u := raiseEvent .held _) ⟨rfl, rfl⟩ id ⟨rfl, rfl⟩ (fun _ => id) (.inl rfl) fun _ h => mem_raiseEvent.2 (.inr h)

theorem enterIdle_reacts (s : State) : Reacts c r s (enterIdle s) :=
  .of_commit_change (u := raiseEvent .runEnded _) ⟨rfl, rfl⟩ id ⟨rfl, rfl⟩ (fun _ => id) (.inl rfl) fun _ h => mem_raiseEvent.2 (.inr h)

theorem stopBoat_pulsing (s : State) : (stopBoat s).pulsing = false := by simp [stopBoat, State.pulsing]

theorem beginAbort_reacts (s : State) : Reacts c r s (beginAbort s) :=
  .of_commit_change ⟨rfl, rfl⟩ id ⟨rfl, rfl⟩ (fun _ => id) (.inr (.inl (by rw [stopBoat_pulsing]; rfl))) fun _ => id

theorem leaveHeld_reacts (run : RunState) (s : State) : Reacts c r s (leaveHeld run s) := .of_commit rfl

theorem takeTarget_pulse (m : BoatPart) (s : State) :
    (takeTarget m s).bd.pulse = if (takeTarget m s).pulsing then some 0 else none := rfl

theorem evaluateDroop_events (s : State) : (evaluateDroop s).lp.events = s.lp.events := by
  rcases evaluateDroop_cases s with h | ⟨_, _, _, h⟩ <;> rw [h]

theorem mem_testArrival_events {k : EventKind} {s : State} (h : k ∈ s.lp.events) : k ∈ (testArrival s).lp.events := by
  rcases testArrival_cases s with h' | ⟨-, h'⟩ <;> rw [h']
  · exact h
  · exact mem_raiseEvent.2 (.inr h)

theorem mem_takeTarget_events {k : EventKind} (m : BoatPart) {s : State} (h : k ∈ s.lp.events) : k ∈ (takeTarget m s).lp.events :=
  mem_testArrival_events (by rw [evaluateDroop_events]; exact h)

theorem evaluateDroop_eq (s : State) : evaluateDroop s = { s with bd := (evaluateDroop s).bd } := by
  rcases evaluateDroop_cases s with h | ⟨_, _, _, h⟩ <;> rw [h]

theorem testArrival_eq (s : State) :
    testArrival s = { s with bd := (testArrival s).bd, lp.events := (testArrival s).lp.events } := by
  rcases testArrival_cases s with h | ⟨-, h⟩ <;> rw [h] <;> rfl

/-- The taking of a target reaches no more than BD and the pending events (R87). -/
theorem takeTarget_eq (m : BoatPart) (s : State) :
    takeTarget m s = { s with bd := (takeTarget m s).bd, lp.events := (takeTarget m s).lp.events } := by
  unfold takeTarget
  dsimp only
  rw [testArrival_eq, evaluateDroop_eq]

/-- The hand-over of a step's parts leaves what the reactions set outside BD as it was (R12). -/
structure HandedOut (s t : State) : Prop where
  held : t.bu.heldHeater = s.bu.heldHeater ∧ t.bu.heldPurge = s.bu.heldPurge
  bank : t.bl = s.bl
  cap : t.zc.capSeen = s.zc.capSeen ∧ t.zc.demand = s.zc.demand
  queue : t.gc.queue = s.gc.queue
  events : ∀ k ∈ s.lp.events, k ∈ t.lp.events

theorem stepHandedOut_handedOut (n : StepRecord) (s : State) : HandedOut s (stepHandedOut n s) := by
  unfold stepHandedOut
  generalize hs2 : handOver n.gas takeGas (handOver n.thermal takeThermal (makeCurrent n s)) = s2
  have h2 : HandedOut s s2 := by
    rw [← hs2]
    cases n.gas <;> cases n.thermal <;> exact ⟨⟨rfl, rfl⟩, rfl, ⟨rfl, rfl⟩, rfl, fun _ => id⟩
  cases n.boat with
  | none => exact h2
  | some m =>
    show HandedOut s (takeTarget m s2)
    have hev (k : EventKind) (h : k ∈ s.lp.events) := mem_takeTarget_events m (h2.events k h)
    rw [takeTarget_eq] at hev ⊢
    exact ⟨h2.held, h2.bank, h2.cap, h2.queue, hev⟩

/-- After the hand-over the pulse interval timer is as it was, or as the target taken sets it (R91). -/
theorem stepHandedOut_pulse (n : StepRecord) (s : State) : (stepHandedOut n s).bd.pulse = s.bd.pulse ∨
    (stepHandedOut n s).bd.pulse = if (stepHandedOut n s).pulsing then some 0 else none := by
  unfold stepHandedOut
  cases n.boat with
  | none => left; cases n.gas <;> cases n.thermal <;> rfl
  | some m => exact .inr (takeTarget_pulse m _)

theorem startStep_reacts (n : StepRecord) (s : State) : Reacts c r s (startStep n s) := by
  have h := stepHandedOut_handedOut n s
  have hpulse := stepHandedOut_pulse n s
  rw [startStep_eq]
  generalize stepHandedOut n s = u at h hpulse
  exact .of_commit_change (u := raiseEvent .stepStarted _) h.held (fun hs => h.bank ▸ hs) h.cap
    (fun l hl => h.queue ▸ hl) (hpulse.imp id .inl) (fun k hk => mem_raiseEvent.2 (.inr (h.events k hk)))

theorem finishStep_reacts (n : StepRecord) (s : State) : Reacts c r s (finishStep n s) :=
  .of_change rfl rfl rfl (fun _ => rfl) ⟨rfl, rfl⟩ id ⟨rfl, rfl⟩ (fun _ _ => id) rfl fun _ _ h => mem_raiseEvent.2 (.inr h)

/-- STARVED is to the boat and to the shares what RUNNING is (R18, R88, R112). -/
theorem starve_reacts {s : State} (hrun : s.rs.run = .running) : Reacts c r s (starve s) := by
  have hm : (starve s).motion = s.motion := by
    simp only [State.motion, hrun, starve_rs]; rfl
  have hrank : (starve s).rank = s.rank := by
    simp only [State.rank, hrun, starve_rs]; rfl
  refine .of_change hm ?_ ?_ (fun _ => rfl) ⟨rfl, rfl⟩ id ⟨rfl, rfl⟩ (fun _ _ => id) rfl fun _ _ h => mem_raiseEvent.2 (.inr h)
  · simp only [State.pulsing, hm]; rfl
  · have hown : ∀ x : Nat, ({ (starve s).shareInputs with rank := x } : ShareInputs) = { s.shareInputs with rank := x } := fun _ => rfl
    have := hown s.rank
    rw [← hrank] at this
    rw [show s.shareInputs = { s.shareInputs with rank := (starve s).rank } by rw [hrank]; rfl, ← this]
    rfl

theorem evaluate_reaction (s : State) : Reaction c r s (evaluate s) :=
  evaluate_keeps (Reaction c r s)
    (hdwell := fun _ _ h => h.tail (.of_silent rfl))
    (hlast := fun u n _ _ h => (h.tail (finishStep_reacts n u)).tail (enterIdle_reacts _))
    (hstarve := fun u n hrun _ _ h => (h.tail (finishStep_reacts n u)).tail (starve_reacts hrun))
    (hnext := fun u n n' rest _ _ _ h => ((h.tail (finishStep_reacts n u)).tail
      (.of_silent (t := { finishStep n u with rs.queue := rest }) rfl)).tail (startStep_reacts n' _)) s .refl

theorem stepStart_reaction (n : StepRecord) (s : State) : Reaction c r s (stepStart n s) :=
  .head (startStep_reacts n s) (evaluate_reaction _)

theorem startFrom_reaction (n : StepRecord) (rest : List StepRecord) (s : State) :
    Reaction c r s (stepStart n { s with rs.queue := rest }) :=
  .head (b := { s with rs.queue := rest }) (.of_silent rfl) (stepStart_reaction n _)

theorem restartTimeout_reacts (s : State) : Reacts c r s (restartTimeout s) := by
  unfold restartTimeout
  split
  · exact (.of_silent rfl)
  · exact (.of_silent rfl)

theorem RunAct.reaction (h : RunAct c r s t) : Reaction c r s t := by
  cases h with
  | hold => exact (enterHeld_reacts s).reaction
  | endAbort => exact (enterIdle_reacts s).reaction
  | abort b => exact .head (b := { s with rs.abortOrdered := b }) (.of_silent rfl) (beginAbort_reacts _).reaction
  | abortAtOnce b =>
    exact .head (b := { s with rs.abortOrdered := b }) (.of_silent rfl)
      (.head (beginAbort_reacts _) (enterIdle_reacts _).reaction)
  | evaluate => exact evaluate_reaction s
  | appendStart raw n rest => exact startFrom_reaction n rest s
  | start n rest _ hrel hrun =>
    exact .head (b := { s with
        rs.clock := 0, rs.clockPhase := .running 1000, rs.done := 0, rs.discarded := 0, rs.lastLabel := none
        rs.thermal := none, rs.gas := none, rs.queue := rest }) (.of_silent rfl) (stepStart_reaction n _)
  | resumeStarved => exact (leaveHeld_reacts _ s).reaction
  | resumeStart n rest =>
    exact .head (leaveHeld_reacts .running s) (startFrom_reaction n rest (leaveHeld .running s))
  | resume => exact .head (leaveHeld_reacts .running s) (.head (restartTimeout_reacts _) (evaluate_reaction _))
  | endPurge | order | dropOrder | tick | timeOut | dwell | append | clearQueue => exact Reacts.reaction (.of_silent rfl)

/-! ### The boat -/

/-- What the applied flows depend on (R71, R72). -/
theorem appliedFlow_congr {l : GasLine} (hrel : t.released = s.released) (himage : t.image = s.image)
    (hlines : ∀ l, (t.line l).commanded = (s.line l).commanded) (hheld : t.bu.heldPurge = s.bu.heldPurge)
    (he : t.bd.e = s.bd.e) (hsealed : t.pins.sealed = s.pins.sealed) : t.appliedFlow l = s.appliedFlow l := by
  unfold State.appliedFlow State.oxidantPermit State.capSealed State.boatFullIn State.oxidantEnabled
  rw [hrel, himage, hlines, hlines, hlines, hheld, he, hsealed]

/-- A stop takes the move away and changes no input of the shares and no flow (R97, R101). -/
theorem stop_reacts {s0 : State} (h : s0.shareInputs = s.shareInputs ∨ s.HeldWithinComputed) :
    Reacts c r s (commit s0 (stopMove s)) := by
  have hmove : (stopMove s).bd.move = none := by
    unfold stopMove
    split
    · rfl
    · next h => simpa using h
  have hpulsing : (stopMove s).pulsing = false := by simp [State.pulsing, hmove]
  have hgated : (stopMove s).motion ≠ .gated := by
    unfold State.motion
    rw [hmove]
    split <;> simp
  have hin : (stopMove s).shareInputs = s.shareInputs := by unfold stopMove; split <;> rfl
  have hheld (p : Supply) : (stopMove s).heldGrant p = s.heldGrant p := by unfold stopMove; split <;> rfl
  have hsame (p : Supply) : (commit s0 (stopMove s)).heldGrant p = s.heldGrant p := by
    rw [commit_heldGrant, hin, hheld, computedGrant_congr hin]
    split
    · rfl
    · next hne =>
      have hwithin := h.resolve_left hne
      exact min_eq_left ((heldWithinComputed_iff s).1 hwithin p)
  have hpulse : (commit s0 (stopMove s)).bd.pulse = none ∨ s.pulsing = false ∧ (commit s0 (stopMove s)).bd.pulse = s.bd.pulse := by
    rw [commit_pulse, hpulsing]
    cases s0.pulsing with
    | true => exact .inl rfl
    | false =>
      cases hm : s.bd.move with
      | none => exact .inr ⟨by simp [State.pulsing, hm], by simp [stopMove, hm]⟩
      | some m => exact .inl (by simp [stopMove, hm, stopBoat])
  have hev : (stopMove s).lp.events = s.lp.events := by unfold stopMove; split <;> rfl
  have hflow (l : GasLine) : (commit s0 (stopMove s)).appliedFlow l = s.appliedFlow l := by
    have hp : (commit s0 (stopMove s)).bu.heldPurge = s.bu.heldPurge := hsame .purge
    have hgc : (commit s0 (stopMove s)).gc.lines = s.gc.lines := by rw [commit_gc_lines]; unfold stopMove; split <;> rfl
    have he : (commit s0 (stopMove s)).bd.e = s.bd.e := by rw [commit_bd_e]; unfold stopMove; split <;> rfl
    have hpins : (commit s0 (stopMove s)).pins = s.pins := by rw [commit_pins]; unfold stopMove; split <;> rfl
    have hcl : (commit s0 (stopMove s)).cl = s.cl := by rw [commit_cl]; unfold stopMove; split <;> rfl
    exact appliedFlow_congr (by simp only [State.released, hcl]) (by simp only [State.image, hcl]) (fun l => by rw [State.line, hgc]; rfl) hp he
      (by rw [hpins])
  exact {
    held := fun _ => by
      rcases commit_held s0 (stopMove s) with ⟨-, -⟩ | ⟨h, hraise⟩
      · exact .inl ⟨by simp [hin], hsame⟩
      · exact .inr ⟨fun p => by rw [h, hheld], hraise⟩
    slot := fun _ h => commit_announceSlot _ _ (by unfold stopMove; split <;> exact h)
    cap := .inl <| by
      have hz : (stopMove s).zc = s.zc := by unfold stopMove; split <;> rfl
      rw [commit_capSeen, commit_zc_demand, hz, show (stopMove s).bu.heldHeater = s.bu.heldHeater from hheld .heater]
      exact ⟨rfl, rfl⟩
    flow := fun l h => absurd (hflow l).symm h
    queue := fun _ l h => mem_commit_queue.2 (.inr (by unfold stopMove; split <;> exact h))
    pulsing := fun h => by rw [commit_pulsing, hpulsing] at h; cases h
    still := fun _ => hpulse
    gated := fun h => absurd (commit_motion s0 (stopMove s) ▸ h) hgated
    events := fun _ k h => by
      rw [commit_events, boatReact_events, hev]
      split
      · exact mem_addEvent.2 (.inr h)
      · exact h }

theorem BoatAct.reaction (h : BoatAct c r s t) : Reaction c r s t := by
  cases h with
  | move raw =>
    have hheld : (takeTarget (storeBoat s.image raw) s).bu = s.bu := by rw [takeTarget_eq]
    have hbl : (takeTarget (storeBoat s.image raw) s).bl = s.bl := by rw [takeTarget_eq]
    have hzc : (takeTarget (storeBoat s.image raw) s).zc = s.zc := by rw [takeTarget_eq]
    exact (Reacts.of_commit_change (by simp [hheld]) (by simp [hbl]) (by simp [hzc]) (by simp)
      (.inr (.inl (takeTarget_pulse _ _))) (fun _ h => mem_takeTarget_events _ h)).reaction
  | count | closeGate | openGate | rebase => exact Reacts.reaction (.of_commit rfl)
  | pulse m _ _ hp => exact Reacts.reaction (.of_commit_change ⟨rfl, rfl⟩ id ⟨rfl, rfl⟩ (fun _ => id) (.inr (.inr ⟨hp, rfl⟩)) fun _ => id)
  | pins p hsealed =>
    refine Reacts.reaction (.of_change rfl rfl rfl (fun l => ?_) ⟨rfl, rfl⟩ id ⟨rfl, rfl⟩ (fun _ _ => id) rfl fun _ _ => id)
    cases l <;> simp only [State.appliedFlow, State.oxidantPermit, State.capSealed, hsealed] <;> rfl
  | reclear _ hgate =>
    have hm : State.motion { s with
        pins.loadclr := true, bd.gate := .reclearing, bd.reclear := .running Config.reclearMs } = s.motion := by
      simp [State.motion, hgate]
    refine Reacts.reaction (.of_change hm ?_ rfl (fun _ => rfl) ⟨rfl, rfl⟩ id ⟨rfl, rfl⟩ (fun _ _ => id) rfl fun _ _ => id)
    simp only [State.pulsing, hm]
  | stop s0 _ _ hs0 => exact (stop_reacts hs0).reaction
  | droop =>
    rcases evaluateDroop_cases s with h | ⟨f, w, d, h⟩ <;> rw [h]
    · exact Reacts.reaction (.of_commit rfl)
    · exact Reacts.reaction (.of_commit rfl)
  | arrive =>
    rcases testArrival_cases s with h | ⟨-, h⟩ <;> rw [h]
    · exact Reacts.reaction (.of_commit rfl)
    · have hp : State.pulsing (raiseEvent .boatArrived
          { s with bd.move := none, bd.droopWait := false, bd.pulse := none }) = false := by simp [State.pulsing]
      exact Reacts.reaction (.of_commit_change ⟨rfl, rfl⟩ id ⟨rfl, rfl⟩ (fun _ => id) (.inr (.inl (by rw [hp]; rfl)))
        fun _ h => mem_raiseEvent.2 (.inr h))
  | marks | lastMark | phase => exact Reacts.reaction (.of_silent rfl)

/-! ### Gas, heaters and zones -/

/-- Lines whose commanded flows stay apply the same flows (R71). -/
theorem appliedFlow_setLines {ls : PerLine LineControl} (h : ∀ l, (ls.get l).commanded = (s.line l).commanded) (l : GasLine) :
    State.appliedFlow { s with gc.lines := ls } l = s.appliedFlow l := appliedFlow_congr rfl rfl h rfl rfl rfl

theorem GasAct.reaction (h : GasAct c s t) : Reaction c r s t := by
  cases h with
  | sealPin | hand => exact Reacts.reaction (.of_commit rfl)
  | lines ls _ h => exact Reacts.reaction (.of_change rfl rfl rfl (appliedFlow_setLines h) ⟨rfl, rfl⟩ id ⟨rfl, rfl⟩ (fun _ _ => id) rfl fun _ _ => id)
  | repeated l =>
    exact Reacts.reaction (.of_change rfl rfl rfl (appliedFlow_setLines (setLine_commanded rfl)) ⟨rfl, rfl⟩ id ⟨rfl, rfl⟩
      (fun _ m hm => (mem_joinQueue l m _).2 (.inr hm)) rfl fun _ _ => id)
  | send l rest hc =>
    exact Reacts.reaction (.of_change rfl rfl rfl (appliedFlow_setLines (setLine_commanded rfl)) ⟨rfl, rfl⟩ id ⟨rfl, rfl⟩
      (fun h => absurd hc h) rfl fun _ _ => id)
  | accumulate | phase => exact Reacts.reaction (.of_silent rfl)

theorem demandStage_reacts (hc : c = .zcPeriod) (s : State) : Reacts c r s (demandStage s) :=
  have hpulses := commit_pulses (s := s) (u := handDemand s) (.inl rfl)
  have hevents := commit_keeps_events (s := s) (u := handDemand s) fun _ => id
  { held := fun _ => by
      rcases commit_held s (handDemand s) with ⟨hin, h⟩ | h
      · exact .inl ⟨by rw [show (demandStage s).shareInputs = (commit s (handDemand s)).shareInputs from rfl,
          commit_shareInputs, hin], fun p => (h p).trans (by cases p <;> rfl)⟩
      · exact .inr ⟨fun p => (h.1 p).trans (by cases p <;> rfl), h.2⟩
    slot := fun _ h => commit_announceSlot s (handDemand s) h
    cap := .inr ⟨hc, rfl⟩
    flow := fun l h => mem_commit_queue.2 (.inl h)
    queue := fun _ l h => mem_commit_queue.2 (.inr h)
    pulsing := fun h => hpulses.1 (commit_pulsing s _ ▸ h)
    still := fun h => hpulses.2 (commit_pulsing s _ ▸ h)
    gated := hevents.1
    events := fun _ => hevents.2 }

theorem rampAndDrive_reacts (s : State) : Reacts c r s (rampAndDrive s) := by
  unfold rampAndDrive
  dsimp only
  split
  · exact (.of_silent rfl)
  · exact (.of_silent rfl)

theorem settleStage_reacts (s : State) : Reacts c r s (settleStage s) := (.of_silent rfl)

theorem zcStages_reaction (hc : c = .zcPeriod) (s : State) :
    Reaction c r s (settleStage (demandStage (rampAndDrive s))) :=
  (((rampAndDrive_reacts s).reaction).tail (demandStage_reacts hc _)).tail (settleStage_reacts _)

theorem ZoneAct.reaction (h : ZoneAct c s t) : Reaction c r s t := by
  cases h with
  | measure | window => exact Reacts.reaction (.of_silent rfl)
  | period hc =>
    have hphase : Reacts c r s { s with zc.phase := .running Config.periodMs } := (.of_silent rfl)
    exact .head hphase (zcStages_reaction hc _)

/-! ### The bank line -/

theorem raised_reaction (k : EventKind) (h : Reaction c r s t) : Reaction c r s (raiseEvent k t) := h.tail (.raised k)

/-- The raise check changes nothing but the ANNOUNCE slot (R121). -/
theorem raiseCheck_reacts (s : State) : Reacts c r s (raiseCheck s) := by
  unfold raiseCheck
  split
  · exact .of_change rfl rfl rfl (fun _ => rfl) ⟨rfl, rfl⟩ (fun _ => rfl) ⟨rfl, rfl⟩ (fun _ _ => id) rfl fun _ _ => id
  · exact (.of_silent rfl)

/-- The grants as an ANNOUNCE completion raises them, up to the raise check (R123). -/
def raisedGrants (b : AnnounceBody) (s : State) : State :=
  { s with
    bu.heldHeater := max s.bu.heldHeater (min b.heaterHeld.toNat (s.computedGrant .heater))
    bu.heldPurge := max s.bu.heldPurge (min b.purgeHeld.toNat (s.computedGrant .purge))
    bl.announceSlot := false }

theorem completeAnnounce_eq (b : AnnounceBody) (s : State) :
    completeAnnounce b s = raiseCheck (commit s (raisedGrants b s)) := rfl

/-- A completion changes no input of the shares, so nothing is lowered (R120, R123). -/
theorem commit_raisedGrants_held (b : AnnounceBody) (s : State) (p : Supply) :
    (commit s (raisedGrants b s)).heldGrant p = (raisedGrants b s).heldGrant p := by
  rw [commit_heldGrant]; exact if_pos rfl

theorem complete_reaction (hc : c = .transmitCompletion) (b : AnnounceBody) (s : State) :
    Reaction c r s (completeAnnounce b s) := by
  rw [completeAnnounce_eq]
  refine .head ?_ (raiseCheck_reacts _).reaction
  have hheld := commit_raisedGrants_held b s .heater
  have hpulses := commit_pulses (s := s) (u := raisedGrants b s) (.inl rfl)
  have hevents := commit_keeps_events (s := s) (u := raisedGrants b s) fun _ => id
  exact {
    held := fun h => absurd hc h
    slot := fun h => absurd hc h
    cap := .inl <| by
      have h1 : ¬ (commit s (raisedGrants b s)).bu.heldHeater < (raisedGrants b s).bu.heldHeater := not_lt.2 (le_of_eq hheld.symm)
      have h2 : ¬ (commit s (raisedGrants b s)).bu.heldHeater < s.bu.heldHeater := fun h =>
        h1 (lt_of_lt_of_le h (le_max_left _ _))
      rw [commit_capSeen, commit_zc_demand, decide_eq_false h1, decide_eq_false h2]
      exact ⟨rfl, rfl⟩
    flow := fun l h => mem_commit_queue.2 (.inl h)
    queue := fun _ l h => mem_commit_queue.2 (.inr h)
    pulsing := fun h => hpulses.1 (commit_pulsing s _ ▸ h)
    still := fun h => hpulses.2 (commit_pulsing s _ ▸ h)
    gated := hevents.1
    events := fun _ => hevents.2 }

theorem BankAct.reaction (h : BankAct c s t) (hsc : c = .listenTimerExpiry → s.StartCoherent) : Reaction c r s t := by
  cases h with
  | bank b _ hp hi hm hslot =>
    exact Reacts.reaction (.of_change rfl rfl (shareInputs_congr rfl rfl rfl rfl rfl rfl rfl hi) (fun _ => rfl) ⟨rfl, rfl⟩ hslot ⟨rfl, rfl⟩
      (fun _ _ => id) rfl fun _ _ => id)
  | mute =>
    rw [enterMute_eq]
    exact raised_reaction _ (Reacts.reaction (.of_change rfl rfl rfl (fun _ => rfl) ⟨rfl, rfl⟩ id ⟨rfl, rfl⟩ (fun _ _ => id) rfl
      fun _ _ h => mem_raiseEvent.2 (.inr h)))
  | unmute => exact raised_reaction _ (Reacts.reaction (.of_silent rfl))
  | join hphase hc =>
    have hrel : s.released = true := by
      by_contra h
      rw [((hsc hc).quiet (by simpa using h)).2.2.2.2.2.2.2] at hphase
      cases hphase
    refine raised_reaction _ (Reacts.reaction (.of_change rfl rfl ?_ (fun l => ?_) ⟨rfl, rfl⟩ (fun _ => rfl) ⟨rfl, rfl⟩ (fun _ _ => id) rfl
      fun _ _ => id))
    · simp only [State.shareInputs, State.rank, hrel]; rfl
    · exact appliedFlow_congr (by rw [hrel]; rfl) rfl (fun _ => rfl) rfl rfl rfl
  | complete b a hc =>
    exact .head (b := { frameEnds s with bl.attempt := none, bl.abandons := 0 }) (.of_silent rfl) (complete_reaction hc b _)

theorem ShareAct.reaction (h : ShareAct c s t) : Reaction c r s t := by
  cases h with
  | budget b _ hv hh hp hh' hp' hl =>
    exact Reacts.reaction (.of_change rfl rfl (shareInputs_congr rfl rfl rfl hh hp hv hl rfl)
      (fun l => appliedFlow_congr rfl rfl (fun _ => rfl) hp' rfl rfl) ⟨hh', hp'⟩ id ⟨rfl, rfl⟩ (fun _ _ => id) rfl fun _ _ => id)
  | level | hear | isolate => exact raised_reaction _ (Reacts.reaction (.of_commit rfl))
  | entry | stale | remove => exact Reacts.reaction (.of_commit rfl)

/-! ### The rest, and every action -/

theorem release_reacts (s : State) : Reacts c r s (release s) := by
  unfold release releaseBU
  have hall (l : GasLine) : l ∈ GasLine.all := by cases l <;> decide
  dsimp only
  split
  · exact .of_commit_change ⟨rfl, rfl⟩ id ⟨rfl, rfl⟩ (fun l _ => hall l) (.inl rfl) fun _ h => mem_raiseEvent.2 (.inr h)
  · exact .of_commit_change ⟨rfl, rfl⟩ id ⟨rfl, rfl⟩ (fun l _ => hall l) (.inl rfl) fun _ h => mem_raiseEvent.2 (.inr h)

/-- What a part without a configuration and without READY shows does not depend on the loader's own records (R187). -/
theorem loader_reacts {l : Loader} (hrel : s.released = false) (hrel' : State.released { s with cl := l } = false)
    (himage : l.image = s.cl.image) : Reacts c r s { s with cl := l } := by
  have himg : State.image { s with cl := l } = s.image := by simp [State.image, himage]
  have hrank : State.rank { s with cl := l } = s.rank := by simp [State.rank, hrel, hrel']
  refine .of_change rfl rfl ?_ (fun m => appliedFlow_congr (hrel'.trans hrel.symm) himg (fun _ => rfl) rfl rfl rfl) ⟨rfl, rfl⟩ id
    ⟨rfl, rfl⟩ (fun _ _ => id) rfl fun _ _ => id
  simp only [State.shareInputs, State.beff, hrank, himg]
  rfl

theorem LoadAct.reaction (h : LoadAct c r s t) (hc : c ≠ .powerOnReset ∧ c ≠ .warmReset)
    (hsc : (∃ x y, c = .resetEnd x y) → s.StartCoherent) : Reaction c r s t := by
  cases h with
  | powerOn h => exact absurd h hc.1
  | warm h => exact absurd h hc.2
  | endReset src addr h hheld =>
    have hsc := hsc ⟨_, _, h⟩
    have hrel : s.released = false := by simp [State.released, (hsc.reset hheld).1]
    have hload := loader_reacts (c := c) (r := r) (s := s) (l := (Machine.endReset src addr s).cl) hrel
      (by simp only [State.released, Machine.endReset]; cases src <;> rfl) (hsc.quiet hrel).1.symm
    exact .tail (b := { s with cl := (Machine.endReset src addr s).cl }) hload.reaction (.of_silent rfl)
  | stage bytes h => exact Reacts.reaction (loader_reacts h h rfl)
  | release => exact (release_reacts s).reaction
  | refuse h => exact Reacts.reaction (loader_reacts h rfl rfl)

/-- Every action but a reset is a chain of changes with their reactions. -/
theorem Act.reaction (h : Act c r s t) (hc : c ≠ .powerOnReset ∧ c ≠ .warmReset)
    (hsc : c = .listenTimerExpiry ∨ (∃ x y, c = .resetEnd x y) → s.StartCoherent) : Reaction c r s t := by
  cases h with
  | run h => exact h.reaction
  | fault h =>
    cases h with
    | take k sub v => exact raised_reaction _ (Reacts.reaction (.of_silent rfl))
    | clear => exact Reacts.reaction (.of_silent rfl)
  | boat h => exact h.reaction
  | gas h => exact h.reaction
  | zone h => exact h.reaction
  | bank h => exact h.reaction fun h => hsc (.inl h)
  | share h => exact h.reaction
  | port h =>
    cases h with
    | readEvents hr => exact Reacts.reaction (.of_change rfl rfl rfl (fun _ => rfl) ⟨rfl, rfl⟩ id ⟨rfl, rfl⟩ (fun _ _ => id) rfl fun h => absurd hr h)
    | hear | lineError | overrun | wait | replied | reply => exact Reacts.reaction (.of_silent rfl)
  | load h => exact h.reaction hc fun h => hsc (.inr h)
  | choose => exact Reacts.reaction (.of_silent rfl)

/-! ### Invariants, reaction by reaction -/

theorem Reaction.keeps {P : State → Prop} (h : Reaction c r s t) (hP : ∀ u v, Reacts c r u v → P u → P v) (hs : P s) : P t := by
  induction h with
  | refl => exact hs
  | tail _ hlast ih => exact hP _ _ hlast ih

/-- What every change with its reactions keeps, every command but a reset keeps that starts from a state in agreement. -/
theorem exec_keeps_reacts {P : State → Prop} (h : exec c s = .next t) (hc : c ≠ .powerOnReset ∧ c ≠ .warmReset)
    (hsc : s.StartCoherent) (hs : P s) (hP : ∀ r u v, Reacts c r u v → P u → P v) : P t :=
  exec_keeps h hsc hs fun r _ _ hact hu => (hact.reaction hc fun _ => hu).keeps (hP r)

/-- The commands whose effect on the start-up state needs no further agreement. -/
def Instr.plain (c : Instr) : Prop :=
  (c ≠ .powerOnReset ∧ c ≠ .warmReset) ∧ c ≠ .listenTimerExpiry ∧ ∀ x y, c ≠ .resetEnd x y

/-- What every change with its reactions keeps, every plain command keeps from any state. -/
theorem exec_plain_keeps {P : State → Prop} (h : exec c s = .next t) (hc : Instr.plain c) (hs : P s)
    (hP : ∀ r u v, Reacts c r u v → P u → P v) : P t :=
  (exec_acts h).keeps (fun r _ _ hact => (hact.reaction hc.1 fun h => by
    rcases h with h | ⟨x, y, h⟩
    · exact absurd h hc.2.1
    · exact absurd h (hc.2.2 x y)).keeps (hP r)) hs

end

end Sys2Proof.Machine
end

section
/-!
PROOF. What the reactions keep through a whole command: held grants rise only at completions (R123), changed flows are queued (R75), and the
pulse interval timer begins at 0 (R91); and the boat is pulsed only in MOVING.
-/
namespace Sys2Proof.Machine

section
variable {c : Instr} {s t : State}

/-! ### Held grants -/

/-- But for an ANNOUNCE completion no plain command raises a held grant (R123). -/
theorem exec_plain_heldGrant_le (h : exec c s = .next t) (hc : Instr.plain c) (hc' : c ≠ .transmitCompletion) (p : Supply) :
    t.heldGrant p ≤ s.heldGrant p :=
  exec_plain_keeps (P := fun u => u.heldGrant p ≤ s.heldGrant p) h hc le_rfl fun r u v hreact hu => by
    rcases hreact.held hc' with ⟨-, hsame⟩ | ⟨hmin, -⟩
    · rw [hsame]; exact hu
    · rw [hmin]; exact (min_le_left _ _).trans hu

/-- The commands that are not plain, and what they leave of the held grants, the cap-seen flag and the pulsing. -/
theorem exec_not_plain (h : exec c s = .next t) (hc : ¬ Instr.plain c) :
    ((c = .powerOnReset ∨ c = .warmReset) ∧ t.bu = Budget.reset ∧ t.zc = Heat.reset ∧ t.bd = Boat.reset) ∨
    t.bu = s.bu ∧ t.zc = s.zc ∧ t.bd = s.bd ∧ t.rs = s.rs := by
  cases c with
  | powerOnReset => cases h; exact .inl ⟨.inl rfl, rfl, rfl, rfl⟩
  | warmReset =>
    cases h
    split
    · exact .inr ⟨rfl, rfl, rfl, rfl⟩
    · exact .inl ⟨.inr rfl, rfl, rfl, rfl⟩
  | resetEnd => cases h; right; split <;> exact ⟨rfl, rfl, rfl, rfl⟩
  | listenTimerExpiry => cases h; right; split <;> exact ⟨rfl, rfl, rfl, rfl⟩
  | _ => exact absurd ⟨⟨nofun, nofun⟩, nofun, nofun⟩ hc

/-- The held field of a supply in an ANNOUNCE body (R122). -/
def heldIn (b : AnnounceBody) : Supply → Nat
  | .heater => b.heaterHeld.toNat
  | .purge => b.purgeHeld.toNat

/-- What a completion does to the held grants (R123). -/
theorem exec_transmitCompletion_held (h : exec .transmitCompletion s = .next t) (p : Supply) :
    t.heldGrant p = s.heldGrant p ∨ ∃ b replaced, s.bl.attempt = some ⟨.announce b, replaced⟩ ∧
      t.heldGrant p = max (s.heldGrant p) (min (heldIn b p) (s.computedGrant p)) := by
  cases h
  split
  · next a ha =>
    obtain ⟨frame, replaced⟩ := a
    cases frame with
    | announce b =>
      refine .inr ⟨b, replaced, ha, ?_⟩
      show (completeAnnounce b _).heldGrant p = _
      rw [completeAnnounce_eq, raiseCheck_heldGrant, commit_raisedGrants_held]
      cases p <;> rfl
    | curtail | ack => left; unfold completeFrame; dsimp only; split <;> cases p <;> rfl
  · exact .inl rfl

/-- Settles O12: the reactions only lower; a completion raises within the frame's field and the computed grant. -/
theorem grantRisesOnlyAtCompletion : Obligations.GrantRisesOnlyAtCompletion := by
  intro c s t h
  have hrise (p : Supply) (hlt : s.heldGrant p < t.heldGrant p) : c = .transmitCompletion := by
    by_contra hne
    by_cases hplain : Instr.plain c
    · exact absurd hlt (not_lt.2 (exec_plain_heldGrant_le h hplain hne p))
    · rcases exec_not_plain h hplain with ⟨-, hbu, -⟩ | ⟨hbu, -⟩ <;> cases p <;>
        simp [State.heldGrant, hbu, Budget.reset] at hlt
  have hbound (p : Supply) (hlt : s.heldGrant p < t.heldGrant p) : ∃ b replaced, s.bl.attempt = some ⟨.announce b, replaced⟩ ∧
      t.heldGrant p ≤ heldIn b p ∧ t.heldGrant p ≤ s.computedGrant p := by
    obtain rfl := hrise p hlt
    rcases exec_transmitCompletion_held h p with heq | ⟨b, replaced, ha, heq⟩
    · exact absurd hlt (by rw [heq]; exact lt_irrefl _)
    · rw [heq] at hlt ⊢
      have := lt_max_iff.1 hlt
      exact ⟨b, replaced, ha, by omega, by omega⟩
  exact ⟨fun hlt => ⟨hrise .heater hlt, hbound .heater hlt⟩, fun hlt => ⟨hrise .purge hlt, hbound .purge hlt⟩⟩

/-! ### Flows -/

/-- What has been queued or has not changed stays so (R75). -/
theorem Reacts.flowQueued {r : Option Request} {u v : State} (hreact : Reacts c r u v) (hc : c ≠ .setpointRecordSend) {x : GasLine → Nat}
    (hu : ∀ l, x l ≠ u.appliedFlow l → l ∈ u.gc.queue) (l : GasLine) (h : x l ≠ v.appliedFlow l) : l ∈ v.gc.queue := by
  by_cases huv : u.appliedFlow l = v.appliedFlow l
  · exact hreact.queue hc l (hu l (huv ▸ h))
  · exact hreact.flow l huv

/-- Settles O21: every change queues the lines whose flows it changes, and no later change of the command takes one out. -/
theorem flowChangeQueues : Obligations.FlowChangeQueues := by
  intro c s t l hsc h hrel hne
  by_cases hreset : c = .powerOnReset ∨ c = .warmReset
  · have hun (fl : FaultLog) (k : ResetKind) : (enterReset k fl s).released = false := rfl
    rcases hreset with rfl | rfl <;> cases h
    · rw [hun] at hrel; cases hrel
    · split at hrel
      · next hheld => rw [if_pos hheld] at hne; exact absurd rfl hne
      · rw [hun] at hrel; cases hrel
  · by_cases hsend : c = .setpointRecordSend
    · subst hsend
      refine absurd ?_ hne
      cases h
      split
      · rfl
      · next m rest _ =>
        exact (appliedFlow_setLines (setLine_commanded (l := m)
          (c := { s.line m with repeatTimer := .running Config.repeatMs }) rfl) l).symm
    · exact exec_keeps_reacts (P := fun u => ∀ l, s.appliedFlow l ≠ u.appliedFlow l → l ∈ u.gc.queue) h (not_or.1 hreset) hsc
        (fun _ h => absurd rfl h) (fun r u v hreact hu l => hreact.flowQueued hsend hu l) l hne

/-! ### Pulses -/

/-- Only STEP_PULSE in MOVING and a reset touch the count of pulses (R91). -/
theorem Act.pulses {r : Option Request} (h : Act c r s t) (hc : c ≠ .stepPulse) (hc' : c ≠ .powerOnReset ∧ c ≠ .warmReset) :
    t.bd.pulses = s.bd.pulses := by
  cases h with
  | run h => exact congrArg (·.bd.pulses) h.besideRun
  | fault h => rw [h.frame]
  | boat h =>
    cases h with
    | pulse _ h => exact absurd h hc
    | move => rw [commit_bd_pulses]; exact congrArg (·.bd.pulses) (takeTarget_besideRun _ s)
    | stop => rw [commit_bd_pulses]; unfold stopMove; split <;> rfl
    | droop => rw [commit_bd_pulses]; exact congrArg (·.bd.pulses) (evaluateDroop_besideRun s)
    | arrive => rw [commit_bd_pulses]; exact congrArg (·.bd.pulses) (testArrival_besideRun s)
    | count | closeGate | openGate | rebase => exact commit_bd_pulses s _
    | pins | reclear | marks | lastMark | phase => rfl
  | gas h => exact congrArg (·.bd.pulses) h.frame
  | zone h => exact congrArg (·.bd.pulses) h.frame
  | bank h => exact congrArg (·.bd.pulses) h.frame
  | share h => exact congrArg (·.bd.pulses) h.frame
  | port h => rw [h.frame]
  | load h =>
    cases h with
    | powerOn h => exact absurd h hc'.1
    | warm h => exact absurd h hc'.2
    | release => simp only [release, commit_bd_pulses, releaseBU]; split <;> rfl
    | endReset | stage | refuse => rfl
  | choose => rfl

/-- Settles O18: by the actions of a command, of which one alone counts a pulse. -/
theorem pulsesOnlyWhileMoving : Obligations.PulsesOnlyWhileMoving := by
  intro c s t hgate h hne
  by_cases hreset : c = .powerOnReset ∨ c = .warmReset
  · exact hreset.imp id .inl
  · by_cases hpulse : c = .stepPulse
    · subst hpulse
      cases h
      split at hne
      · next m hm =>
        split at hne
        · next hp =>
          have hmoving : s.motion = .moving := by
            simp only [State.pulsing, Bool.and_eq_true, decide_eq_true_eq] at hp
            exact hp.1
          have hopen : s.bd.gate = .opened := by
            by_contra hg
            unfold State.motion at hmoving
            split at hmoving
            · cases hmoving
            · split at hmoving <;> cases hmoving
          refine .inr (.inr ⟨rfl, ?_, hmoving, hopen, hgate (by simp [hopen])⟩)
          rw [if_pos hp, commit_bd_pulses]
        · exact absurd rfl hne
      · exact absurd rfl hne
    · refine absurd ((exec_acts h).keeps (P := fun u => u.bd.pulses = s.bd.pulses) (fun r u v hact hu => ?_) rfl) hne
      exact (hact.pulses hpulse (not_or.1 hreset)).trans hu

end

end Sys2Proof.Machine
end

section
/-!
PROOF. The boat's positions and targets stay in its range (R4, R86, R87), its gate behind LOADCLR (R89) and its pulse interval timer with
pulsing (R91).
-/
namespace Sys2Proof.Machine

/-- Positions, the outstanding target and the targets RS holds lie in the boat's range. -/
def State.BoatSpan (s : State) : Prop :=
  s.bd.e ≤ Config.positionMax ∧ s.bd.c ≤ Config.positionMax ∧ (∀ m, s.bd.move = some m → m.target ≤ Config.positionMax) ∧
    ∀ x ∈ s.rs.queue, ∀ m, x.boat = some m → m.target ≤ Config.positionMax

theorem State.BoatSpan.of_same {s t : State} (h : s.BoatSpan) (hrs : t.rs.queue = s.rs.queue)
    (hbd : t.bd.e = s.bd.e ∧ t.bd.c = s.bd.c ∧ t.bd.move = s.bd.move) : t.BoatSpan := by
  obtain ⟨he, hc, hm⟩ := hbd
  unfold State.BoatSpan
  rw [he, hc, hm, hrs]
  exact h

/-! ### Targets -/

theorem testArrival_boat (s : State) : (testArrival s).bd.e = s.bd.e ∧ (testArrival s).bd.c = s.bd.c ∧
    ∀ m, (testArrival s).bd.move = some m → s.bd.move = some m := by
  rcases testArrival_cases s with h | ⟨-, h⟩ <;> rw [h]
  · exact ⟨rfl, rfl, fun _ => id⟩
  · exact ⟨rfl, rfl, fun _ h => (by cases h)⟩

theorem evaluateDroop_boat (s : State) : (evaluateDroop s).bd.e = s.bd.e ∧ (evaluateDroop s).bd.c = s.bd.c ∧
    (evaluateDroop s).bd.move = s.bd.move := by
  rcases evaluateDroop_cases s with h | ⟨_, _, _, h⟩ <;> rw [h] <;> exact ⟨rfl, rfl, rfl⟩

/-- A target taken is the outstanding one, or is reached at once (R87, R96). -/
theorem takeTarget_boat (m : BoatPart) (s : State) : (takeTarget m s).bd.e = s.bd.e ∧ (takeTarget m s).bd.c = s.bd.c ∧
    ∀ m', (takeTarget m s).bd.move = some m' → m' = m := by
  unfold takeTarget
  dsimp only
  generalize hs1 : ({ s with
    bd.move := some m
    bd.bdir := if s.bd.c < m.target then true else if m.target < s.bd.c then false else s.bd.bdir
    bd.droopWait := false
    bd.factor := .full } : State) = s1
  obtain ⟨h1, h2, h3⟩ := evaluateDroop_boat s1
  obtain ⟨h4, h5, h6⟩ := testArrival_boat (evaluateDroop s1)
  refine ⟨h4.trans (h1.trans (by rw [← hs1])), h5.trans (h2.trans (by rw [← hs1])), fun m' h => ?_⟩
  have := (h3.symm.trans (h6 m' h))
  rw [← hs1] at this
  exact (Option.some.inj this).symm

theorem startStep_boat (n : StepRecord) (s : State) : (startStep n s).bd.e = s.bd.e ∧ (startStep n s).bd.c = s.bd.c ∧
    ∀ m, (startStep n s).bd.move = some m → n.boat = some m ∨ s.bd.move = some m := by
  rw [startStep_eq, commit_bd_e, commit_bd_c, commit_bd_move]
  show (stepHandedOut n s).bd.e = _ ∧ (stepHandedOut n s).bd.c = _ ∧ ∀ m, (stepHandedOut n s).bd.move = some m → _
  unfold stepHandedOut
  have hbd : (handOver n.gas takeGas (handOver n.thermal takeThermal (makeCurrent n s))).bd = s.bd := by
    rw [handOver_keeps State.bd _ takeGas _ fun _ _ => rfl, handOver_keeps State.bd _ takeThermal _ fun _ _ => rfl]; rfl
  cases n.boat with
  | none =>
    have hnone : handOver none takeTarget (handOver n.gas takeGas (handOver n.thermal takeThermal (makeCurrent n s))) =
        handOver n.gas takeGas (handOver n.thermal takeThermal (makeCurrent n s)) := rfl
    rw [hnone, hbd]
    exact ⟨rfl, rfl, fun _ => .inr⟩
  | some m =>
    obtain ⟨he, hc, hm⟩ := takeTarget_boat m (handOver n.gas takeGas (handOver n.thermal takeThermal (makeCurrent n s)))
    rw [hbd] at he hc
    exact ⟨he, hc, fun m' h => .inl (congrArg some (hm m' h).symm)⟩

theorem startStep_boatSpan {n : StepRecord} {rest : List StepRecord} {s : State} (h : s.BoatSpan)
    (hn : ∀ m, n.boat = some m → m.target ≤ Config.positionMax)
    (hrest : ∀ x ∈ rest, ∀ m, x.boat = some m → m.target ≤ Config.positionMax) :
    (startStep n { s with rs.queue := rest }).BoatSpan := by
  obtain ⟨he, hc, hm, -⟩ := h
  obtain ⟨he', hc', hm'⟩ := startStep_boat n { s with rs.queue := rest }
  refine ⟨by rw [he']; exact he, by rw [hc']; exact hc, fun m h => (hm' m h).elim (hn m) (hm m), ?_⟩
  rw [startStep_rs]
  exact hrest

theorem evaluate_boatSpan {s : State} (h : s.BoatSpan) : (evaluate s).BoatSpan :=
  evaluate_keeps State.BoatSpan (hdwell := fun _ _ h => h)
    (hlast := fun s n _ _ h => h.of_same (by simp) (by simp [enterIdle, takeIdleFlows, takeIdleSource, stopStepTimers]; exact ⟨rfl, rfl, rfl⟩))
    (hstarve := fun _ _ _ _ _ h => h)
    (hnext := fun s n n' rest _ _ hq h => startStep_boatSpan (s := finishStep n s) h
      (fun m hm => h.2.2.2 n' (by rw [hq]; exact List.mem_cons_self) m hm)
      (fun x hx m hm => h.2.2.2 x (by rw [hq]; exact List.mem_cons_of_mem _ hx) m hm)) s h

section
variable {c : Instr} {r : Option Request} {s t : State}

theorem enterIdle_boat (s : State) : (enterIdle s).bd.e = s.bd.e ∧ (enterIdle s).bd.c = s.bd.c ∧ (enterIdle s).bd.move = s.bd.move := by
  rw [enterIdle, commit_bd_e, commit_bd_c, commit_bd_move]; exact ⟨rfl, rfl, rfl⟩

theorem beginAbort_boatSpan (h : s.BoatSpan) : (beginAbort s).BoatSpan := by
  have he : (beginAbort s).bd.e = s.bd.e := by rw [beginAbort, commit_bd_e]; rfl
  have hc : (beginAbort s).bd.c = s.bd.e := by rw [beginAbort, commit_bd_c]; rfl
  have hm : (beginAbort s).bd.move = none := by rw [beginAbort, commit_bd_move]; rfl
  exact ⟨by rw [he]; exact h.1, by rw [hc]; exact h.1, by simp [hm], by simp⟩

theorem RunAct.boatSpan (h : RunAct c r s t) (hs : s.BoatSpan) (hpin : s.image.pIn ≤ Config.positionMax) : t.BoatSpan := by
  have hstart (u : State) (hu : u.BoatSpan) (n : StepRecord) (rest : List StepRecord) (hq : s.rs.queue = n :: rest) :
      (stepStart n { u with rs.queue := rest }).BoatSpan :=
    evaluate_boatSpan (startStep_boatSpan hu
      (fun m hm => hs.2.2.2 n (by rw [hq]; exact List.mem_cons_self) m hm)
      (fun x hx m hm => hs.2.2.2 x (by rw [hq]; exact List.mem_cons_of_mem _ hx) m hm))
  have hleave (run : RunState) : (leaveHeld run s).BoatSpan :=
    hs.of_same (by simp) (by rw [leaveHeld, commit_bd_e, commit_bd_c, commit_bd_move]; exact ⟨rfl, rfl, rfl⟩)
  have happend (raw : RawStep) : ∀ x ∈ s.rs.queue ++ [storeStep s.image raw], ∀ m, x.boat = some m →
      m.target ≤ Config.positionMax := by
    intro x hx m hm
    rcases List.mem_append.1 hx with hx | hx
    · exact hs.2.2.2 x hx m hm
    · obtain rfl := List.mem_singleton.1 hx
      obtain ⟨p, -, rfl⟩ := Option.map_eq_some_iff.1 hm
      exact (min_le_right _ _).trans hpin
  cases h with
  | hold => exact hs.of_same (by simp) (by rw [enterHeld, commit_bd_e, commit_bd_c, commit_bd_move]; exact ⟨rfl, rfl, rfl⟩)
  | endAbort => exact hs.of_same (by simp) (enterIdle_boat s)
  | abort b => exact beginAbort_boatSpan (s := { s with rs.abortOrdered := b }) hs
  | abortAtOnce b =>
    exact (beginAbort_boatSpan (s := { s with rs.abortOrdered := b }) hs).of_same (by simp) (enterIdle_boat _)
  | evaluate => exact evaluate_boatSpan hs
  | append raw => exact ⟨hs.1, hs.2.1, hs.2.2.1, happend raw⟩
  | appendStart raw n rest _ _ _ _ hq =>
    exact evaluate_boatSpan (startStep_boatSpan hs
      (fun m hm => happend raw n (by rw [hq]; exact List.mem_cons_self) m hm)
      (fun x hx m hm => happend raw x (by rw [hq]; exact List.mem_cons_of_mem _ hx) m hm))
  | clearQueue => exact ⟨hs.1, hs.2.1, hs.2.2.1, by simp⟩
  | start n rest _ _ _ hq =>
    exact hstart { s with
        rs.clock := 0, rs.clockPhase := .running 1000, rs.done := 0, rs.discarded := 0, rs.lastLabel := none
        rs.thermal := none, rs.gas := none } hs n rest hq
  | resumeStarved => exact hleave .starved
  | resumeStart n rest _ _ _ hq => exact hstart (leaveHeld .running s) (hleave .running) n rest hq
  | resume =>
    refine evaluate_boatSpan ((hleave .running).of_same ?_ ?_) <;> unfold restartTimeout <;> split
    · rfl
    · rfl
    · exact ⟨rfl, rfl, rfl⟩
    · exact ⟨rfl, rfl, rfl⟩
  | endPurge | order | dropOrder | tick | timeOut | dwell => exact hs

theorem BoatAct.boatSpan (h : BoatAct c r s t) (hs : s.BoatSpan) (hpin : s.image.pIn ≤ Config.positionMax) : t.BoatSpan := by
  have hcommit {s0 u : State} (h : u.BoatSpan) : (commit s0 u).BoatSpan := h.of_same (by simp) (by simp)
  obtain ⟨he, hc, hm, hq⟩ := id hs
  cases h with
  | move raw =>
    obtain ⟨he', hc', hm'⟩ := takeTarget_boat (storeBoat s.image raw) s
    refine hcommit ⟨he' ▸ he, hc' ▸ hc, fun m h => ?_, by rw [takeTarget_rs]; exact hq⟩
    rw [hm' m h]
    exact (min_le_right _ _).trans hpin
  | count line =>
    refine hcommit ⟨?_, hc, hm, hq⟩
    show countPosition _ s.bd.e ≤ _
    unfold countPosition
    split
    · split <;> omega
    · omega
  | closeGate | openGate => exact hcommit hs
  | pulse m _ hmove =>
    refine hcommit ⟨he, ?_, hm, hq⟩
    have := hm m hmove
    show stepToward m.target s.bd.c ≤ _
    unfold stepToward
    split <;> omega
  | rebase diff =>
    have hclamp (x : Nat) : rebasePosition diff x ≤ Config.positionMax := by
      unfold rebasePosition clampInt
      omega
    exact hcommit ⟨hclamp _, hclamp _, hm, hq⟩
  | stop s0 =>
    refine hcommit ?_
    unfold stopMove
    split
    · exact ⟨he, he, by simp [stopBoat], hq⟩
    · exact hs
  | droop => exact hcommit (hs.of_same (by simp) (evaluateDroop_boat s))
  | arrive =>
    obtain ⟨he', hc', hm'⟩ := testArrival_boat s
    exact hcommit ⟨he' ▸ he, hc' ▸ hc, fun m h => hm m (hm' m h), by rw [testArrival_rs]; exact hq⟩
  | pins | reclear | marks | lastMark | phase => exact hs

/-- Only the loader changes the image in force (R182, R190). -/
theorem Act.image (h : Act c r s t) : LoadAct c r s t ∨ t.image = s.image := by
  have hsame (hi : t.cl.image = s.cl.image) : LoadAct c r s t ∨ t.image = s.image := .inr (by rw [State.image, hi]; rfl)
  cases h with
  | run h => exact hsame (congrArg (·.cl.image) h.besideRun)
  | fault h => rw [h.frame]; exact .inr rfl
  | boat h => exact hsame (congrArg (·.cl.image) h.frame)
  | gas h => exact hsame (congrArg (·.cl.image) h.frame)
  | zone h => exact hsame (congrArg (·.cl.image) h.frame)
  | bank h => exact hsame (congrArg (·.cl.image) h.frame)
  | share h => exact hsame (congrArg (·.cl.image) h.frame)
  | port h => rw [h.frame]; exact .inr rfl
  | load h => exact .inl h
  | choose => exact .inr rfl

theorem absentImage_pIn : absentImage.pIn ≤ Config.positionMax := by decide

theorem applyImage_pIn (b : List Byte) (addr : BitVec 3) (fuses : Fuses) : (applyImage b addr fuses).pIn ≤ Config.positionMax := by
  show clampNat 1000 20000 _ ≤ 20000
  unfold clampNat
  split
  · omega
  · split <;> omega

/-- The release gives the boat its gate and leaves it where it is (R190). -/
theorem release_boat (s : State) : (release s).bd.e = s.bd.e ∧ (release s).bd.c = s.bd.c ∧ (release s).bd.move = s.bd.move ∧
    (release s).bd.gate = if s.pins.loadclr then .reclearing else .closed := by
  simp only [release, commit_bd_e, commit_bd_c, commit_bd_move, commit_bd_gate, releaseBU]
  split <;> exact ⟨rfl, rfl, rfl, rfl⟩

@[simp] theorem release_pins (s : State) : (release s).pins = s.pins := by
  simp only [release, commit_pins, releaseBU]
  split <;> rfl

theorem boatSpan_reset {s : State} (hrs : s.rs = Sequencer.reset) (hbd : s.bd = Boat.reset) : s.BoatSpan := by
  unfold State.BoatSpan
  rw [hrs, hbd]
  exact ⟨Nat.zero_le _, Nat.zero_le _, fun _ h => (by cases h), fun _ h => (by cases h)⟩

/-- The boat's part of the claim, with the full-in position of the image in force. -/
def State.BoatHeld (s : State) : Prop := s.BoatSpan ∧ s.image.pIn ≤ Config.positionMax ∧ s.GateFollows

theorem LoadAct.boatHeld (h : LoadAct c r s t) (hsc : s.StartCoherent) (hs : s.BoatHeld) : t.BoatHeld := by
  obtain ⟨hspan, hpin, hgate⟩ := hs
  cases h with
  | powerOn | warm => exact ⟨boatSpan_reset rfl rfl, absentImage_pIn, fun h => absurd rfl h⟩
  | endReset => exact ⟨hspan, absentImage_pIn, hgate⟩
  | stage | refuse => exact ⟨hspan, hpin, hgate⟩
  | release =>
    obtain ⟨he, hc, hm, hg⟩ := release_boat s
    refine ⟨hspan.of_same (by simp) ⟨he, hc, hm⟩, ?_, fun h => ?_⟩
    · simp only [State.image, release_cl, Option.getD_some]
      exact applyImage_pIn _ _ _
    · rw [hg] at h
      rw [release_pins]
      by_contra hl
      rw [if_neg hl] at h
      exact h rfl

theorem BoatAct.gateFollows (h : BoatAct c r s t) (hsc : s.StartCoherent) (hs : s.GateFollows) : t.GateFollows := by
  have hcommit {s0 u : State} (hg : u.bd.gate = s.bd.gate) (hp : u.pins.loadclr = s.pins.loadclr) : (commit s0 u).GateFollows := by
    unfold State.GateFollows
    rw [commit_bd_gate, commit_pins, hg, hp]
    exact hs
  cases h with
  | pins p _ hload =>
    intro hg
    rcases hload with h | h | h
    · exact h.trans (hs hg)
    · exact h
    · have hbd : s.bd = Boat.reset := (hsc.quiet h).2.2.2.2.2.1
      exact absurd (by rw [hbd]; rfl : s.bd.gate = .closed) hg
  | reclear => exact fun _ => rfl
  | closeGate => intro h; rw [commit_bd_gate] at h; exact absurd rfl h
  | openGate hg => intro _; rw [commit_pins]; exact hs (by simp [hg])
  | move raw =>
    exact hcommit (congrArg (·.bd.gate) (takeTarget_besideRun _ s)) (congrArg (·.pins.loadclr) (takeTarget_besideRun _ s))
  | stop => exact hcommit (by unfold stopMove; split <;> rfl) (by unfold stopMove; split <;> rfl)
  | droop =>
    exact hcommit (congrArg (·.bd.gate) (evaluateDroop_besideRun s)) (congrArg (·.pins.loadclr) (evaluateDroop_besideRun s))
  | arrive =>
    exact hcommit (congrArg (·.bd.gate) (testArrival_besideRun s)) (congrArg (·.pins.loadclr) (testArrival_besideRun s))
  | count line => exact hcommit rfl (by cases line <;> rfl)
  | pulse | rebase => exact hcommit rfl rfl
  | marks | lastMark | phase => exact hs

theorem Act.boatHeld (h : Act c r s t) (hsc : s.StartCoherent) (hs : s.BoatHeld) : t.BoatHeld := by
  rcases h.image with hload | himage
  · exact hload.boatHeld hsc hs
  · obtain ⟨hspan, hpin, hgate⟩ := id hs
    refine ⟨?_, himage ▸ hpin, ?_⟩
    · have hsame (hrs : t.rs = s.rs) (he : t.bd.e = s.bd.e) (hc : t.bd.c = s.bd.c) (hm : t.bd.move = s.bd.move) : t.BoatSpan :=
        hspan.of_same (by rw [hrs]) ⟨he, hc, hm⟩
      cases h with
      | run h => exact h.boatSpan hspan hpin
      | fault h => rw [h.frame]; exact hspan
      | boat h => exact h.boatSpan hspan hpin
      | gas h => exact hsame (congrArg (·.rs) h.frame) (congrArg (·.bd.e) h.frame) (congrArg (·.bd.c) h.frame) (congrArg (·.bd.move) h.frame)
      | zone h => exact hsame (congrArg (·.rs) h.frame) (congrArg (·.bd.e) h.frame) (congrArg (·.bd.c) h.frame) (congrArg (·.bd.move) h.frame)
      | bank h => exact hsame (congrArg (·.rs) h.frame) (congrArg (·.bd.e) h.frame) (congrArg (·.bd.c) h.frame) (congrArg (·.bd.move) h.frame)
      | share h => exact hsame (congrArg (·.rs) h.frame) (congrArg (·.bd.e) h.frame) (congrArg (·.bd.c) h.frame) (congrArg (·.bd.move) h.frame)
      | port h => rw [h.frame]; exact hspan
      | load h => exact (h.boatHeld hsc hs).1
      | choose => exact hspan
    · have hsame (hg : t.bd.gate = s.bd.gate) (hp : t.pins.loadclr = s.pins.loadclr) : t.GateFollows := by
        unfold State.GateFollows
        rw [hg, hp]
        exact hgate
      cases h with
      | run h => exact hsame (congrArg (·.bd.gate) h.besideRun) (congrArg (·.pins.loadclr) h.besideRun)
      | fault h => rw [h.frame]; exact hgate
      | boat h => exact h.gateFollows hsc hgate
      | gas h => exact hsame (congrArg (·.bd.gate) h.frame) (congrArg (·.pins.loadclr) h.frame)
      | zone h => exact hsame (congrArg (·.bd.gate) h.frame) (congrArg (·.pins.loadclr) h.frame)
      | bank h => exact hsame (congrArg (·.bd.gate) h.frame) (congrArg (·.pins.loadclr) h.frame)
      | share h => exact hsame (congrArg (·.bd.gate) h.frame) (congrArg (·.pins.loadclr) h.frame)
      | port h => rw [h.frame]; exact hgate
      | load h => exact (h.boatHeld hsc hs).2.2
      | choose => exact hgate

/-! ### The pulse interval timer -/

theorem Reacts.pulseTimerFollows (h : Reacts c r s t) (hs : s.PulseTimerFollows) : t.PulseTimerFollows := by
  unfold State.PulseTimerFollows at hs ⊢
  cases hp : t.pulsing with
  | true =>
    rcases h.pulsing hp with h | ⟨hps, h⟩
    · rw [h]; rfl
    · rw [h, hs, hps]
  | false =>
    rcases h.still hp with h | ⟨hps, h⟩
    · rw [h]; rfl
    · rw [h, hs, hps]

theorem exec_pulseTimerFollows (h : exec c s = .next t) (hsc : s.StartCoherent) (hs : s.PulseTimerFollows) :
    t.PulseTimerFollows := by
  by_cases hc : c = .powerOnReset ∨ c = .warmReset
  · rcases hc with rfl | rfl <;> cases h
    · rfl
    · split
      · exact hs
      · rfl
  · exact exec_keeps_reacts (P := State.PulseTimerFollows) h (not_or.1 hc) hsc hs fun _ _ _ => Reacts.pulseTimerFollows

/-- Pulsing that a command has made allowed begins with the timer at 0 (R91). -/
theorem exec_pulse_begins (h : exec c s = .next t) (hs : s.pulsing = false) (ht : t.pulsing = true) : t.bd.pulse = some 0 := by
  by_cases hc : Instr.plain c
  · refine exec_plain_keeps (P := fun u => u.pulsing = true → u.bd.pulse = some 0) h hc (fun h => by rw [hs] at h; cases h)
      (fun r u v hreact hu hv => ?_) ht
    rcases hreact.pulsing hv with h | ⟨hpu, h⟩
    · exact h
    · exact h.trans (hu hpu)
  · rcases exec_not_plain h hc with ⟨-, -, -, hbd⟩ | ⟨-, -, hbd, hrs⟩
    · simp [State.pulsing, hbd, Boat.reset] at ht
    · have : t.pulsing = s.pulsing := by simp [State.pulsing, State.motion, hbd, hrs]
      rw [this, hs] at ht
      cases ht

end

/-- Settles O10: the ranges and the gate action by action, the timer reaction by reaction. -/
theorem boatDriveKept : Obligations.BoatDriveKept := by
  refine ⟨fun s t hsc hrange hgate hpulse h => ?_, fun c s t h hs ht => exec_pulse_begins h hs ht⟩
  obtain ⟨⟨he, hc, hm, hq⟩, hpin, hgate'⟩ : t.BoatHeld :=
    step_keeps_acts (P := State.BoatHeld) h hsc
      ⟨⟨hrange.encoder, hrange.commanded, hrange.target, hrange.steps⟩, hrange.fullIn, hgate⟩
      (fun _ _ _ hu => hu) (fun _ hu => hu) (fun _ _ _ _ hact hsc' hu => hact.boatHeld hsc' hu)
  refine ⟨⟨he, hc, hm, hq, hpin⟩, hgate', ?_⟩
  refine (step_keeps (P := fun u => u.StartCoherent ∧ u.PulseTimerFollows) h ⟨hsc, hpulse⟩
    (fun u ps n hu => ⟨⟨hu.1.quiet, hu.1.image, hu.1.station, hu.1.reset⟩, hu.2⟩)
    (fun hu => ⟨advance_startCoherent hu.1, ?_⟩)
    fun c u hu h => ⟨exec_startCoherent h hu.1, exec_pulseTimerFollows h hu.1 hu.2⟩).2
  show (s.bd.pulse.map _).isSome = s.pulsing
  rw [Option.isSome_map]
  exact hu.2

end Sys2Proof.Machine
end

section
/-!
PROOF. No setpoint and no target exceeds the zone temperature limit (R2, R45, R48, R51, R188).
-/
namespace Sys2Proof.Machine

theorem perZone_get_build {α : Type} (f : Zone → α) (z : Zone) : (PerZone.build f).get z = f z := by cases z <;> rfl

/-- A zone's target and setpoint lie within a limit. -/
def ZoneWithin (limit : Nat) (x : ZoneControl) : Prop :=
  (∀ t, x.target = some t → t ≤ limit) ∧ ∀ spi, x.spi = some spi → spi ≤ limit * 120

/-- The targets of a record lie within a limit. -/
def RecordWithin (limit : Nat) (x : StepRecord) : Prop := ∀ p, x.thermal = some p → ∀ z, p.targets.get z ≤ limit

/-- Zones and queued records lie within a limit. -/
def State.HeatWithin (s : State) (limit : Nat) : Prop :=
  (∀ z, ZoneWithin limit (s.zoneC z)) ∧ ∀ x ∈ s.rs.queue, RecordWithin limit x

theorem State.HeatWithin.of_same {s t : State} {limit : Nat} (h : s.HeatWithin limit) (hz : t.zc.zones = s.zc.zones)
    (hq : t.rs.queue = s.rs.queue) : t.HeatWithin limit := by
  unfold State.HeatWithin State.zoneC
  rw [hz, hq]
  exact h

section
variable {s : State} {limit : Nat}

/-! ### The sources of targets -/

theorem takeIdleSource_zoneC (s : State) (z : Zone) : (takeIdleSource s).zoneC z =
    { s.zoneC z with target := if s.used z then some s.image.idleTemperature else none } := perZone_get_build _ z

theorem takeThermal_zoneC (p : ThermalPart) (s : State) (z : Zone) : (takeThermal p s).zoneC z =
    { s.zoneC z with target := if s.used z then some (p.targets.get z) else none } := perZone_get_build _ z

/-- A zone that takes a target within the limit stays within it (R45, R46). -/
theorem ZoneWithin.take {x : ZoneControl} (h : ZoneWithin limit x) {used : Bool} {temp : Nat} (ht : temp ≤ limit) :
    ZoneWithin limit { x with target := if used then some temp else none } := by
  refine ⟨fun t h' => ?_, h.2⟩
  cases used with
  | false => cases h'
  | true => cases h'; exact ht

theorem takeIdleSource_within (h : s.HeatWithin limit) (hi : s.image.idleTemperature ≤ limit) :
    (takeIdleSource s).HeatWithin limit :=
  ⟨fun z => takeIdleSource_zoneC s z ▸ (h.1 z).take hi, h.2⟩

theorem enterIdle_within (h : s.HeatWithin limit) (hi : s.image.idleTemperature ≤ limit) : (enterIdle s).HeatWithin limit := by
  have hidle : (takeIdleSource (stopStepTimers { s with
      rs.run := .idle, rs.prior := none, rs.current := none, rs.thermal := none, rs.gas := none
      rs.abortTimer := .stopped, rs.clockPhase := .stopped, rs.labelInForce := none })).HeatWithin limit :=
    takeIdleSource_within h hi
  exact hidle.of_same (by rw [enterIdle, commit_zc_zones]; rfl) (by rw [enterIdle, commit_rs]; rfl)

theorem beginAbort_within (h : s.HeatWithin limit) (hi : s.image.idleTemperature ≤ limit) : (beginAbort s).HeatWithin limit := by
  have hidle := takeIdleSource_within h hi
  refine ⟨fun z => ?_, by simp⟩
  have hz : (beginAbort s).zc.zones = (takeIdleSource s).zc.zones := by rw [beginAbort, commit_zc_zones]; rfl
  rw [State.zoneC, hz]
  exact hidle.1 z

theorem startStep_zones (n : StepRecord) (s : State) : (startStep n s).zc.zones =
    match n.thermal with
    | some p => (takeThermal p s).zc.zones
    | none => s.zc.zones := by
  rw [startStep_eq, commit_zc_zones]
  show (stepHandedOut n s).zc.zones = _
  rw [stepHandedOut, handOver_keeps (·.zc.zones) _ takeTarget _ fun p u => by rw [takeTarget_eq],
    handOver_keeps (·.zc.zones) _ takeGas _ fun _ _ => rfl]
  cases n.thermal <;> rfl

theorem startStep_within {n : StepRecord} {rest : List StepRecord} (h : s.HeatWithin limit) (hn : RecordWithin limit n)
    (hrest : ∀ x ∈ rest, RecordWithin limit x) : (startStep n { s with rs.queue := rest }).HeatWithin limit := by
  refine ⟨fun z => ?_, by rw [startStep_rs]; exact hrest⟩
  rw [State.zoneC, startStep_zones]
  cases hth : n.thermal with
  | none => exact h.1 z
  | some p =>
    have hzone := takeThermal_zoneC p { s with rs.queue := rest } z
    show ZoneWithin limit ((takeThermal p { s with rs.queue := rest }).zoneC z)
    rw [hzone]
    exact (h.1 z).take (hn p hth z)

theorem startStep_image (n : StepRecord) (s : State) : (startStep n s).image = s.image := by
  have hcl : (startStep n s).cl = s.cl := congrArg (·.cl) (startStep_besideRun n s)
  rw [State.image, hcl]; rfl

theorem evaluate_within (h : s.HeatWithin limit) (hi : s.image.idleTemperature ≤ limit) : (evaluate s).HeatWithin limit :=
  (evaluate_keeps (fun u => u.HeatWithin limit ∧ u.image = s.image) (hdwell := fun _ _ h => h)
    (hlast := fun u n _ _ h => ⟨enterIdle_within (s := finishStep n u) h.1 (h.2.symm ▸ hi), by rw [enterIdle_image]; exact h.2⟩)
    (hstarve := fun _ _ _ _ _ h => h)
    (hnext := fun u n n' rest _ _ hq h => ⟨startStep_within (s := finishStep n u) h.1
      (h.1.2 n' (by rw [hq]; exact List.mem_cons_self)) (fun x hx => h.1.2 x (by rw [hq]; exact List.mem_cons_of_mem _ hx)),
      (startStep_image n' _).trans h.2⟩)
    s ⟨h, rfl⟩).1

/-! ### Seeding and advance -/

theorem seedZone_within {z : Zone} {x : ZoneControl} (h : ZoneWithin s.image.zoneLimit x) :
    ZoneWithin s.image.zoneLimit (seedZone s z x) := by
  unfold seedZone
  split
  · split
    · refine ⟨h.1, fun spi hspi => ?_⟩
      cases hspi
      refine Nat.mul_le_mul_right _ ?_
      unfold clampInt
      split
      · omega
      · split <;> omega
    · exact h
  · exact h

theorem advanceSetpoint_le {rate tti spi limit : Nat} (ht : tti ≤ limit) (hs : spi ≤ limit) :
    advanceSetpoint rate tti spi ≤ limit := by
  unfold advanceSetpoint
  split <;> split <;> omega

theorem advanceZone_within {z : Zone} {x : ZoneControl} (h : ZoneWithin limit x) : ZoneWithin limit (advanceZone s z x) := by
  unfold advanceZone
  split
  · next spi target rate hspi htarget _ =>
    split
    · refine ⟨h.1, fun spi' h' => ?_⟩
      cases h'
      exact advanceSetpoint_le (Nat.mul_le_mul_right _ (h.1 target htarget)) (h.2 spi hspi)
    · exact h
  · exact h

theorem driveZone_setpoints (s : State) (z : Zone) (x : ZoneControl) :
    (driveZone s z x).target = x.target ∧ (driveZone s z x).spi = x.spi := by
  unfold driveZone
  split
  · exact ⟨rfl, rfl⟩
  · split <;> exact ⟨rfl, rfl⟩

theorem mapZoneC_zoneC (f : Zone → ZoneControl → ZoneControl) (s : State) (z : Zone) :
    (mapZoneC f s).zoneC z = f z (s.zoneC z) := perZone_get_build _ z

theorem rampAndDrive_within (h : s.HeatWithin s.image.zoneLimit) : (rampAndDrive s).HeatWithin s.image.zoneLimit := by
  have hseed : (mapZoneC (seedZone s) s).HeatWithin s.image.zoneLimit :=
    ⟨fun z => mapZoneC_zoneC _ s z ▸ seedZone_within (h.1 z), h.2⟩
  have hdrive (f : State) (u : State) (hu : u.HeatWithin s.image.zoneLimit) : (mapZoneC (driveZone f) u).HeatWithin s.image.zoneLimit := by
    refine ⟨fun z => ?_, hu.2⟩
    obtain ⟨ht, hspi⟩ := driveZone_setpoints f z (u.zoneC z)
    rw [mapZoneC_zoneC, ZoneWithin, ht, hspi]
    exact hu.1 z
  unfold rampAndDrive
  dsimp only
  generalize mapZoneC (seedZone s) s = s1 at hseed
  split
  · exact hdrive _ { s1 with zc.rampWait := s1.rampLags, zc.frozen := s1.frozenBy52 } hseed
  · have hadvance : (mapZoneC (advanceZone s1) s1).HeatWithin s.image.zoneLimit :=
      ⟨fun z => mapZoneC_zoneC _ s1 z ▸ advanceZone_within (hseed.1 z), hseed.2⟩
    exact hdrive _ { mapZoneC (advanceZone s1) s1 with zc.rampWait := s1.rampLags, zc.frozen := s1.frozenBy52 } hadvance

theorem demandStage_zones (s : State) : (demandStage s).zc.zones = s.zc.zones := commit_zc_zones s _
theorem demandStage_rs (s : State) : (demandStage s).rs = s.rs := commit_rs s _

theorem settleStage_within {limit : Nat} (h : s.HeatWithin limit) : (settleStage (demandStage s)).HeatWithin limit :=
  h.of_same (demandStage_zones s) (congrArg (·.queue) (demandStage_rs s))

theorem zcStages_within (h : s.HeatWithin s.image.zoneLimit) : (zcStages s).HeatWithin s.image.zoneLimit :=
  settleStage_within (rampAndDrive_within (s := { s with zc.phase := .running Config.periodMs }) h)

end

/-! ### The actions -/

/-- The zones, the records and the idle temperature lie within the limit in force. -/
def State.WithinLimit (s : State) : Prop := s.HeatWithin s.image.zoneLimit ∧ s.image.idleTemperature ≤ s.image.zoneLimit

theorem storeStep_within (img : Image) (raw : RawStep) : RecordWithin img.zoneLimit (storeStep img raw) := by
  intro p hp z
  obtain ⟨q, -, rfl⟩ := Option.map_eq_some_iff.1 hp
  show (PerZone.build _).get z ≤ _
  rw [perZone_get_build]
  unfold clampInt
  split
  · omega
  · split <;> omega

section
variable {c : Instr} {r : Option Request} {s t : State}

theorem RunAct.heatWithin (h : RunAct c r s t) (hs : s.WithinLimit) : t.HeatWithin s.image.zoneLimit := by
  obtain ⟨hheat, hi⟩ := hs
  have hstart (u : State) (n : StepRecord) (rest : List StepRecord) (hu : u.HeatWithin s.image.zoneLimit) (himage : u.image = s.image)
      (hq : ∀ x ∈ n :: rest, RecordWithin s.image.zoneLimit x) :
      (stepStart n { u with rs.queue := rest }).HeatWithin s.image.zoneLimit :=
    evaluate_within (startStep_within hu (hq n List.mem_cons_self) fun x hx => hq x (List.mem_cons_of_mem _ hx))
      (by rw [startStep_image]; exact himage ▸ hi)
  have hleave (run : RunState) : (leaveHeld run s).HeatWithin s.image.zoneLimit :=
    hheat.of_same (by rw [leaveHeld, commit_zc_zones]) (by simp)
  have hleave_image (run : RunState) : (leaveHeld run s).image = s.image := by simp [leaveHeld, State.image]
  have happend (raw : RawStep) : ∀ x ∈ s.rs.queue ++ [storeStep s.image raw], RecordWithin s.image.zoneLimit x := by
    intro x hx
    rcases List.mem_append.1 hx with hx | hx
    · exact hheat.2 x hx
    · obtain rfl := List.mem_singleton.1 hx
      exact storeStep_within s.image raw
  cases h with
  | hold => exact hheat.of_same (by rw [enterHeld, commit_zc_zones]; rfl) (by simp)
  | endAbort => exact enterIdle_within hheat hi
  | abort b => exact beginAbort_within (s := { s with rs.abortOrdered := b }) hheat hi
  | abortAtOnce b =>
    refine enterIdle_within (beginAbort_within (s := { s with rs.abortOrdered := b }) hheat hi) ?_
    rw [beginAbort_image]
    exact hi
  | evaluate => exact evaluate_within hheat hi
  | append raw => exact ⟨hheat.1, happend raw⟩
  | appendStart raw n rest _ _ _ _ hq => exact hstart s n rest hheat rfl (hq ▸ happend raw)
  | clearQueue => exact ⟨hheat.1, by simp⟩
  | start n rest _ _ _ hq =>
    exact hstart { s with
        rs.clock := 0, rs.clockPhase := .running 1000, rs.done := 0, rs.discarded := 0, rs.lastLabel := none
        rs.thermal := none, rs.gas := none } n rest hheat rfl (hq ▸ hheat.2)
  | resumeStarved => exact hleave .starved
  | resumeStart n rest _ _ _ hq => exact hstart (leaveHeld .running s) n rest (hleave .running) (hleave_image _) (hq ▸ hheat.2)
  | resume =>
    have hrestart (u : State) : (restartTimeout u).zc = u.zc ∧ (restartTimeout u).rs.queue = u.rs.queue ∧
        (restartTimeout u).image = u.image := by
      unfold restartTimeout; split <;> exact ⟨rfl, rfl, rfl⟩
    obtain ⟨hzc, hq, himage⟩ := hrestart (leaveHeld .running s)
    exact evaluate_within ((hleave .running).of_same (by rw [hzc]) hq) (by rw [himage, hleave_image]; exact hi)
  | endPurge | order | dropOrder | tick | timeOut | dwell => exact hheat

theorem ZoneAct.heatWithin (h : ZoneAct c s t) (hs : s.WithinLimit) : t.HeatWithin s.image.zoneLimit := by
  cases h with
  | measure => exact hs.1
  | period => exact zcStages_within hs.1
  | window z w =>
    refine ⟨fun z' => ?_, hs.1.2⟩
    by_cases hz : z' = z
    · subst hz
      have : (setWindow z' w s).zoneC z' = { s.zoneC z' with window := w } := by cases z' <;> rfl
      rw [this]
      exact hs.1.1 z'
    · have : (setWindow z w s).zoneC z' = s.zoneC z' := by cases z <;> cases z' <;> first | rfl | exact absurd rfl hz
      rw [this]
      exact hs.1.1 z'

theorem zoneWithin_reset (limit : Nat) (hzc : s.zc = Heat.reset) (z : Zone) : ZoneWithin limit (s.zoneC z) := by
  rw [State.zoneC, hzc]
  cases z <;> exact ⟨fun _ h => (by cases h), fun _ h => (by cases h)⟩

theorem withinLimit_reset (hzc : s.zc = Heat.reset) (hrs : s.rs = Sequencer.reset) (hi : s.image = absentImage) : s.WithinLimit := by
  refine ⟨⟨zoneWithin_reset _ hzc, by rw [hrs]; exact fun _ h => (by cases h)⟩, by rw [hi]; decide⟩

/-- The state of the release up to ZM (R190). -/
def releasedImage (s : State) : State :=
  releaseZM (raiseEvent .ready { s with
    cl.image := some (applyImage s.cl.staging s.cl.addr s.fuses)
    cl.clamped := imageClamped s.cl.staging s.cl.addr s.fuses
    cl.startup := .joining })

theorem release_zones (s : State) : (release s).zc.zones = (releaseZC (releasedImage s)).zc.zones := by
  simp only [release, commit_zc_zones, releaseBU]
  split <;> rfl

/-- The release gives each zone the idle temperature, and no setpoint yet (R45, R68). -/
theorem release_zoneC (s : State) (z : Zone) : ((release s).zoneC z).spi = (s.zoneC z).spi ∧
    ∀ t, ((release s).zoneC z).target = some t → t = (release s).image.idleTemperature := by
  have himage : (release s).image = (releasedImage s).image := by rw [State.image, release_cl]; rfl
  obtain ⟨w, hzone⟩ : ∃ w, (release s).zoneC z = { (takeIdleSource (releasedImage s)).zoneC z with window := w } := by
    rw [State.zoneC, release_zones]
    exact ⟨((releaseZC (releasedImage s)).zc.zones.get z).window, by cases z <;> rfl⟩
  rw [hzone, himage, takeIdleSource_zoneC]
  refine ⟨rfl, fun t ht => ?_⟩
  dsimp only at ht
  split at ht
  · exact (Option.some.inj ht).symm
  · cases ht

theorem LoadAct.withinLimit (h : LoadAct c r s t) (hsc : s.StartCoherent) (hs : s.WithinLimit) : t.WithinLimit := by
  cases h with
  | powerOn | warm => exact withinLimit_reset rfl rfl rfl
  | endReset _ _ _ hheld =>
    have hquiet := hsc.quiet (by simp [State.released, (hsc.reset hheld).1])
    exact withinLimit_reset hquiet.2.2.2.1 hquiet.2.1 rfl
  | stage | refuse => exact hs
  | release hrel =>
    have hquiet := hsc.quiet hrel
    have hlimit : (Machine.release s).image.idleTemperature ≤ (Machine.release s).image.zoneLimit := by
      simp only [State.image, release_cl, Option.getD_some]
      exact min_le_right _ _
    refine ⟨⟨fun z => ?_, ?_⟩, hlimit⟩
    · obtain ⟨hspi, htarget⟩ := release_zoneC s z
      refine ⟨fun t ht => (htarget t ht).le.trans hlimit, fun x hx => ?_⟩
      rw [hspi] at hx
      exact (zoneWithin_reset _ hquiet.2.2.2.1 z).2 x hx
    · rw [release_rs, hquiet.2.1]
      exact fun _ h => (by cases h)

theorem Act.withinLimit (h : Act c r s t) (hsc : s.StartCoherent) (hs : s.WithinLimit) : t.WithinLimit := by
  rcases h.image with hload | himage
  · exact hload.withinLimit hsc hs
  · have hsame (hzc : t.zc.zones = s.zc.zones) (hrs : t.rs = s.rs) : t.HeatWithin s.image.zoneLimit :=
      hs.1.of_same hzc (by rw [hrs])
    refine ⟨himage ▸ ?_, himage ▸ hs.2⟩
    cases h with
    | run h => exact h.heatWithin hs
    | fault h => rw [h.frame]; exact hs.1
    | boat h => exact hsame (congrArg (·.zc.zones) h.frame) (congrArg (·.rs) h.frame)
    | gas h => exact hsame (congrArg (·.zc.zones) h.frame) (congrArg (·.rs) h.frame)
    | zone h => exact h.heatWithin hs
    | bank h => exact hsame (congrArg (·.zc.zones) h.frame) (congrArg (·.rs) h.frame)
    | share h => exact hsame (congrArg (·.zc.zones) h.frame) (congrArg (·.rs) h.frame)
    | port h => rw [h.frame]; exact hs.1
    | load h => exact himage ▸ (h.withinLimit hsc hs).1
    | choose => exact hs.1

end

/-- Settles O13: every source of a target and every move of a setpoint stays within the limit, which changes with the image alone. -/
theorem setpointsWithinLimitKept : Obligations.SetpointsWithinLimitKept := by
  intro s t hsc hs h
  obtain ⟨⟨hzone, hq⟩, hi⟩ : t.WithinLimit :=
    step_keeps_acts (P := State.WithinLimit) h hsc
      ⟨⟨fun z => ⟨hs.target z, hs.setpoint z⟩, hs.steps⟩, hs.idle⟩ (fun _ _ _ hu => hu)
      (fun _ hu => ⟨⟨fun z => by
        have : (advance s).zoneC z = { s.zoneC z with window := tickWindow (s.zoneC z).window } := perZone_get_build _ z
        rw [this]
        exact hu.1.1 z, hu.1.2⟩, hu.2⟩)
      (fun _ _ _ _ hact hsc' hu => hact.withinLimit hsc' hu)
  exact ⟨fun z => (hzone z).1, fun z => (hzone z).2, hq, hi⟩

end Sys2Proof.Machine
end

section
/-!
PROOF. The heater power drawn stays within the held heater grant (R61, R62), and what sets and clears the cap-seen flag (R63, log 34).
-/
namespace Sys2Proof.Machine

/-! ### The power drawn -/

theorem perZone_sum_le {f g : Zone → Nat} (h : ∀ z, f z ≤ g z) : PerZone.sum f ≤ PerZone.sum g := by
  have h1 := h .z1
  have h2 := h .z2
  have h3 := h .z3
  have h4 := h .z4
  have h5 := h .z5
  unfold PerZone.sum
  omega

theorem perZone_sum_mul (f : Zone → Nat) (k : Nat) : PerZone.sum (fun z => f z * k) = PerZone.sum f * k := by
  simp only [PerZone.sum, Nat.add_mul]

/-- Parts of `h` in the ratio of their shares of the whole add to at most `h` (R62). -/
theorem sum_scaled_le {f : Zone → Nat} {g : Zone → Nat} {h : Nat} (hf : ∀ z, f z * PerZone.sum g ≤ g z * h) :
    PerZone.sum f ≤ h ∨ PerZone.sum g = 0 := by
  rcases Nat.eq_zero_or_pos (PerZone.sum g) with h0 | hpos
  · exact .inr h0
  · refine .inl (Nat.le_of_mul_le_mul_right ?_ hpos)
    calc PerZone.sum f * PerZone.sum g
      _ = PerZone.sum fun z => f z * PerZone.sum g := (perZone_sum_mul f _).symm
      _ ≤ PerZone.sum fun z => g z * h := perZone_sum_le hf
      _ = PerZone.sum g * h := perZone_sum_mul g h
      _ = h * PerZone.sum g := Nat.mul_comm _ _

/-- The power drawn in a used zone is its raw drive, scaled where the cap is active (R62). -/
theorem appliedPower_le {s : State} (h : s.DemandCurrent) : s.appliedPower ≤ s.bu.heldHeater * 1000 := by
  unfold State.DemandCurrent at h
  unfold State.appliedPower
  by_cases hcap : s.zc.demand ≤ s.bu.heldHeater * 1000
  · refine le_trans ?_ hcap
    rw [h]
    refine perZone_sum_le fun z => ?_
    unfold State.appliedDrive
    cases s.released <;> cases s.used z <;> simp [hcap]
  · have hsum := sum_scaled_le (f := fun z => s.appliedDrive z * s.image.rating.get z)
      (g := fun z => if s.used z then (s.zoneC z).draw * s.image.rating.get z else 0) (h := s.bu.heldHeater * 1000) fun z => by
        rw [← h]
        unfold State.appliedDrive
        cases s.released with
        | false => simp
        | true =>
          cases s.used z with
          | false => simp
          | true =>
            simp only [Bool.and_self, if_true, if_neg hcap]
            have hdiv := Nat.div_mul_le_self ((s.zoneC z).draw * s.bu.heldHeater * 1000) s.zc.demand
            calc (s.zoneC z).draw * s.bu.heldHeater * 1000 / s.zc.demand * s.image.rating.get z * s.zc.demand
              _ = (s.zoneC z).draw * s.bu.heldHeater * 1000 / s.zc.demand * s.zc.demand * s.image.rating.get z := by
                rw [Nat.mul_right_comm]
              _ ≤ (s.zoneC z).draw * s.bu.heldHeater * 1000 * s.image.rating.get z := Nat.mul_le_mul_right _ hdiv
              _ = (s.zoneC z).draw * s.image.rating.get z * (s.bu.heldHeater * 1000) := by ring
    rcases hsum with hsum | hsum
    · exact hsum
    · exact absurd (Nat.zero_le _) (h.trans hsum ▸ hcap)

/-! ### The demand -/

/-- The demand is a function of the raw drives and the image (R61). -/
theorem State.DemandCurrent.of_same {s t : State} (h : s.DemandCurrent) (hd : t.zc.demand = s.zc.demand) (hi : t.image = s.image)
    (hz : ∀ z, (t.zoneC z).draw = (s.zoneC z).draw) : t.DemandCurrent := by
  unfold State.DemandCurrent State.used at h ⊢
  simp only [hd, hi, hz]
  exact h

section
variable {c : Instr} {r : Option Request} {s t : State}

theorem demandCurrent_reset (hzc : s.zc = Heat.reset) : s.DemandCurrent := by
  have hdraw (z : Zone) : (s.zoneC z).draw = 0 := by rw [State.zoneC, hzc]; cases z <;> rfl
  unfold State.DemandCurrent
  simp only [hdraw, hzc]
  simp [PerZone.sum, Heat.reset]

theorem release_demandCurrent (hsc : s.StartCoherent) (hrel : s.released = false) : (release s).DemandCurrent := by
  have hzc : s.zc = Heat.reset := (hsc.quiet hrel).2.2.2.1
  have hdraw (z : Zone) : ((release s).zoneC z).draw = 0 := by
    have : ((release s).zoneC z).draw = (s.zoneC z).draw := by rw [State.zoneC, release_zones]; cases z <;> rfl
    rw [this, State.zoneC, hzc]
    cases z <;> rfl
  have hdemand : (release s).zc.demand = 0 := by
    have : (release s).zc.demand = s.zc.demand := by simp only [release, commit_zc_demand, releaseBU]; split <;> rfl
    rw [this, hzc]; rfl
  unfold State.DemandCurrent
  simp only [hdraw, hdemand]
  simp [PerZone.sum]

/-- A ZC period leaves the demand of the raw drives it has computed (R61). -/
theorem zcStages_demandCurrent (s : State) : (zcStages s).DemandCurrent := by
  have h (u : State) : (settleStage (demandStage u)).DemandCurrent := by
    have hi : (settleStage (demandStage u)).image = u.image := commit_image u _
    have hz : (settleStage (demandStage u)).zc.zones = u.zc.zones := demandStage_zones u
    unfold State.DemandCurrent State.used State.zoneC
    rw [hi, hz]
    exact commit_zc_demand u (handDemand u)
  exact h _

theorem Act.demandCurrent (h : Act c r s t) (hsc : s.StartCoherent) (hs : s.DemandCurrent) : t.DemandCurrent := by
  rcases h.image with hload | himage
  · cases hload with
    | powerOn | warm => exact demandCurrent_reset rfl
    | endReset _ _ _ hheld => exact demandCurrent_reset (hsc.quiet (by simp [State.released, (hsc.reset hheld).1])).2.2.2.1
    | stage | refuse => exact hs
    | release hrel => exact release_demandCurrent hsc hrel
  · have hsame (hd : t.zc.demand = s.zc.demand) (hz : t.zc.zones = s.zc.zones) : t.DemandCurrent :=
      hs.of_same hd himage fun z => by rw [State.zoneC, hz]; rfl
    cases h with
    | run h =>
      refine hs.of_same (congrArg (·.zc.demand) h.besideRun) himage fun z => ?_
      have := congrArg (fun u => (u.zoneC z).draw) h.besideRun
      cases z <;> exact this
    | fault h => rw [h.frame]; exact hs
    | boat h => exact hsame (congrArg (·.zc.demand) h.frame) (congrArg (·.zc.zones) h.frame)
    | gas h => exact hsame (congrArg (·.zc.demand) h.frame) (congrArg (·.zc.zones) h.frame)
    | zone h =>
      cases h with
      | measure => exact hs
      | period => exact zcStages_demandCurrent s
      | window z w => exact hs.of_same rfl rfl fun z' => by cases z <;> cases z' <;> rfl
    | bank h => exact hsame (congrArg (·.zc.demand) h.frame) (congrArg (·.zc.zones) h.frame)
    | share h => exact hsame (congrArg (·.zc.demand) h.frame) (congrArg (·.zc.zones) h.frame)
    | port h => rw [h.frame]; exact hs
    | load h =>
      cases h with
      | powerOn | warm => exact demandCurrent_reset rfl
      | endReset _ _ _ hheld => exact demandCurrent_reset (hsc.quiet (by simp [State.released, (hsc.reset hheld).1])).2.2.2.1
      | stage | refuse => exact hs
      | release hrel => exact release_demandCurrent hsc hrel
    | choose => exact hs

/-! ### The cap-seen flag -/

/-- Since the command began the held heater grant has fallen, and the cap is active. -/
def Capped (s u : State) : Prop := u.bu.heldHeater < s.bu.heldHeater ∧ u.capActive = true

/-- But for a completion no action of a plain command raises the heater grant. -/
theorem Reacts.heldHeater_le {u v : State} (hreact : Reacts c r u v) (hc : c ≠ .transmitCompletion) :
    v.bu.heldHeater ≤ u.bu.heldHeater := by
  rcases hreact.held hc with ⟨-, h⟩ | ⟨h, -⟩
  · exact (h .heater).le
  · exact (h .heater).le.trans (min_le_left _ _)

/-- A fall of the grant with the cap active has set the flag (R63). -/
theorem exec_capSeen_of_fall (h : exec c s = .next t) (hc : Instr.plain c) (hc' : c ≠ .transmitCompletion) (hcap : Capped s t) :
    t.zc.capSeen = true := by
  refine (exec_plain_keeps (P := fun u => u.bu.heldHeater ≤ s.bu.heldHeater ∧ (Capped s u → u.zc.capSeen = true)) h hc
    ⟨le_rfl, fun h => absurd h.1 (lt_irrefl _)⟩ fun r u v hreact hu => ?_).2 hcap
  have hle := hreact.heldHeater_le hc'
  refine ⟨hle.trans hu.1, fun hv => ?_⟩
  rcases hreact.cap with ⟨hseen, hdemand⟩ | ⟨-, hseen⟩
  · rw [hseen]
    by_cases hlt : v.bu.heldHeater < u.bu.heldHeater
    · simp [hlt, hv.2]
    · have heq : v.bu.heldHeater = u.bu.heldHeater := le_antisymm hle (not_lt.1 hlt)
      have hact : u.capActive = true := by
        rw [← hv.2]; simp [State.capActive, heq, hdemand]
      simp [hu.2 ⟨heq ▸ hv.1, hact⟩]
  · rw [hseen]; exact hv.2

/-- But for a ZC period only such a fall sets it (log 34). -/
theorem exec_capSeen_set (h : exec c s = .next t) (hc : Instr.plain c) (hc' : c ≠ .zcPeriod) (hc'' : c ≠ .transmitCompletion)
    (hs : s.zc.capSeen = false) (ht : t.zc.capSeen = true) : Capped s t := by
  refine (exec_plain_keeps (P := fun u => u.bu.heldHeater ≤ s.bu.heldHeater ∧ (u.zc.capSeen = true → Capped s u)) h hc
    ⟨le_rfl, fun h => by rw [hs] at h; cases h⟩ (fun r u v hreact hu => ?_)).2 ht
  have hle := hreact.heldHeater_le hc''
  refine ⟨hle.trans hu.1, fun hv => ?_⟩
  rcases hreact.cap with ⟨hseen, hdemand⟩ | ⟨hz, -⟩
  · rw [hseen, Bool.or_eq_true, Bool.and_eq_true, decide_eq_true_eq] at hv
    rcases hv with hv | ⟨hlt, hact⟩
    · obtain ⟨hlt, hact⟩ := hu.2 hv
      refine ⟨hle.trans_lt hlt, ?_⟩
      simp only [State.capActive, decide_eq_true_eq] at hact ⊢
      rw [hdemand]
      exact (Nat.mul_le_mul_right _ hle).trans_lt hact
    · exact ⟨hlt.trans_le hu.1, hact⟩
  · exact absurd hz hc'

/-- And but for a ZC period nothing clears it. -/
theorem exec_capSeen_kept (h : exec c s = .next t) (hc : Instr.plain c) (hc' : c ≠ .zcPeriod) (hs : s.zc.capSeen = true) :
    t.zc.capSeen = true :=
  exec_plain_keeps (P := fun u => u.zc.capSeen = true) h hc hs fun r u v hreact hu => by
    rcases hreact.cap with ⟨hseen, -⟩ | ⟨hz, -⟩
    · rw [hseen, hu]; rfl
    · exact absurd hz hc'

/-- A completion changes no input of the shares, and so leaves the flag (R63, R123). -/
theorem completeAnnounce_capSeen (b : AnnounceBody) (s : State) : (completeAnnounce b s).zc.capSeen = s.zc.capSeen := by
  have hheld : (commit s (raisedGrants b s)).bu.heldHeater = (raisedGrants b s).bu.heldHeater :=
    commit_raisedGrants_held b s .heater
  rw [completeAnnounce_eq, raiseCheck_zc, commit_capSeen, hheld, decide_eq_false (lt_irrefl _), Bool.false_and, Bool.or_false]
  rfl

theorem exec_transmitCompletion_capSeen (h : exec .transmitCompletion s = .next t) : t.zc.capSeen = s.zc.capSeen := by
  cases h
  split
  · next a _ =>
    obtain ⟨frame, replaced⟩ := a
    cases frame with
    | announce b => exact completeAnnounce_capSeen b _
    | curtail | ack => unfold completeFrame; dsimp only; split <;> rfl
  · rfl

/-- The three clauses about the cap-seen flag. -/
theorem exec_capSeen (h : exec c s = .next t) :
    (t.bu.heldHeater < s.bu.heldHeater → t.bu.heldHeater * 1000 < t.zc.demand → t.zc.capSeen = true) ∧
    (s.zc.capSeen = false → t.zc.capSeen = true → c = .zcPeriod ∨
      t.bu.heldHeater < s.bu.heldHeater ∧ t.bu.heldHeater * 1000 < t.zc.demand) ∧
    (s.zc.capSeen = true → t.zc.capSeen = false → c = .zcPeriod ∨ c = .powerOnReset ∨ c = .warmReset) := by
  by_cases hplain : Instr.plain c
  · by_cases htx : c = .transmitCompletion
    · subst htx
      have hle : s.bu.heldHeater ≤ t.bu.heldHeater := by
        rcases exec_transmitCompletion_held h .heater with heq | ⟨b, replaced, -, heq⟩
        · exact heq.ge
        · exact (le_max_left _ _).trans heq.ge
      have hsame := exec_transmitCompletion_capSeen h
      exact ⟨fun hlt => absurd hlt (not_lt.2 hle), fun h0 h1 => (by rw [hsame, h0] at h1; cases h1),
        fun h0 h1 => (by rw [hsame, h0] at h1; cases h1)⟩
    · refine ⟨fun hlt hact => exec_capSeen_of_fall h hplain htx ⟨hlt, decide_eq_true hact⟩, fun h0 h1 => ?_, fun h0 h1 => ?_⟩
      · by_cases hz : c = .zcPeriod
        · exact .inl hz
        · obtain ⟨hlt, hact⟩ := exec_capSeen_set h hplain hz htx h0 h1
          exact .inr ⟨hlt, of_decide_eq_true hact⟩
      · by_cases hz : c = .zcPeriod
        · exact .inl hz
        · rw [exec_capSeen_kept h hplain hz h0] at h1; cases h1
  · rcases exec_not_plain h hplain with ⟨hreset, hbu, hzc, -⟩ | ⟨hbu, hzc, -, -⟩
    · rw [hbu, hzc]
      exact ⟨fun _ h => absurd h (Nat.not_lt_zero _), fun _ h => (by cases h), fun _ _ => .inr hreset⟩
    · rw [hbu, hzc]
      exact ⟨fun h => absurd h (lt_irrefl _), fun h0 h1 => (by rw [h0] at h1; cases h1), fun h0 h1 => (by rw [h0] at h1; cases h1)⟩

end

/-- Settles O9: the demand stays current action by action, and bounds the power drawn; the flag is followed reaction by reaction. -/
theorem powerWithinHeldGrant : Obligations.PowerWithinHeldGrant := by
  refine ⟨fun s t hsc hs h => ?_, fun c s t h => exec_capSeen h⟩
  have ht : t.DemandCurrent := step_keeps_acts (P := State.DemandCurrent) h hsc hs (fun _ _ _ hu => hu)
    (fun _ hu => hu.of_same rfl rfl fun z => by cases z <;> rfl) (fun _ _ _ _ hact hsc' hu => hact.demandCurrent hsc' hu)
  exact ⟨ht, appliedPower_le ht⟩

end Sys2Proof.Machine
end

section
/-!
SUPPORT. A command of the port serves at most one entry (R173): what its characters do beside is LP's own bookkeeping.
-/
namespace Sys2Proof.Machine

/-- From `s` to `t` nothing changes but LP's own records, neither its pending events nor the reply in progress among them;
in reset its receiver stays where it is. -/
def PortOnly (s t : State) : Prop := ∃ l, t = { s with lp := l } ∧ l.events = s.lp.events ∧ l.reply = s.lp.reply ∧
  (s.resetHeld.isSome → s.lp.rx = .skipping → l.rx = .skipping)

/-- From `s` to `t` one entry is served, by command `c`, and nothing else changes but LP's own records. -/
def Serves (c : Instr) (s t : State) : Prop :=
  (s.lp.reply = none ∨ c = .replyEnd) ∧ ∃ l1 e l2, (l1.events = s.lp.events ∧ (s.resetHeld.isSome → s.lp.rx = .skipping → l1.rx = .skipping)) ∧
    t = { serveEntry e { s with lp := l1 } with lp := l2 } ∧
    l2.events = (serveEntry e { s with lp := l1 }).lp.events ∧ l2.reply = (serveEntry e { s with lp := l1 }).lp.reply

section
variable {c : Instr} {s t u : State}

theorem PortOnly.refl (s : State) : PortOnly s s := ⟨s.lp, rfl, rfl, rfl, fun _ h => h⟩

theorem PortOnly.trans (h1 : PortOnly s t) (h2 : PortOnly t u) : PortOnly s u := by
  obtain ⟨l1, rfl, he1, hr1, hs1⟩ := h1
  obtain ⟨l2, rfl, he2, hr2, hs2⟩ := h2
  exact ⟨l2, rfl, he2.trans he1, hr2.trans hr1, fun hr h => hs2 hr (hs1 hr h)⟩

theorem Serves.after (h1 : Serves c s t) (h2 : PortOnly t u) : Serves c s u := by
  obtain ⟨hs, l1, e, l2, he1, rfl, he2, hr2⟩ := h1
  obtain ⟨l3, rfl, he3, hr3, -⟩ := h2
  exact ⟨hs, l1, e, l3, he1, rfl, he3.trans he2, hr3.trans hr2⟩

/-- Whatever is served is answered at once (R173, R174). -/
theorem serveEntry_reply (e : LpEntry) (s : State) : (serveEntry e s).lp.reply.isSome := by cases e <;> rfl

theorem Serves.of_entry (h : PortOnly s t) (hr : t.lp.reply = none) (e : LpEntry) :
    Serves c s (serveEntry e t) ∧ (serveEntry e t).lp.reply.isSome := by
  obtain ⟨l, rfl, hev, hreply, hskip⟩ := h
  exact ⟨⟨.inl (hreply ▸ hr), l, e, (serveEntry e { s with lp := l }).lp, ⟨hev, hskip⟩, rfl, rfl, rfl⟩, serveEntry_reply e _⟩

theorem offerEntry_of_free (e : LpEntry) (h : s.lp.reply = none) : offerEntry e s = serveEntry e s := by
  unfold offerEntry
  split
  · rfl
  · next hr _ => rw [h] at hr; cases hr
  · next hr _ => rw [h] at hr; cases hr

/-- An entry formed while a reply is in progress waits or is lost (R173). -/
theorem formEntry_portOnly (e : LpEntry) (h : s.lp.reply.isSome) : PortOnly s (formEntry s e) := by
  have hoffer (u : State) (hu : u.lp.reply.isSome) : PortOnly u (offerEntry e u) := by
    unfold offerEntry
    split
    · next hn => rw [hn] at hu; cases hu
    · exact ⟨_, rfl, rfl, rfl, fun _ h => h⟩
    · exact ⟨_, rfl, rfl, rfl, fun _ h => h⟩
  unfold formEntry
  split
  · exact .trans (t := { s with lp.lineErrors := satSucc Config.count16 s.lp.lineErrors }) ⟨_, rfl, rfl, rfl, fun _ h => h⟩ (hoffer _ h)
  · exact hoffer s h

/-- Nothing has been served yet, or one entry has been and its reply is in progress. -/
def AtMostOne (c : Instr) (s t : State) : Prop := PortOnly s t ∨ Serves c s t ∧ t.lp.reply.isSome

theorem offerEntry_atMostOne (e : LpEntry) (h : PortOnly s t) (hr : t.lp.reply = none) : AtMostOne c s (offerEntry e t) := by
  rw [offerEntry_of_free e hr]
  exact .inr (Serves.of_entry h hr e)

theorem formEntry_atMostOne (e : LpEntry) (h : AtMostOne c s t) : AtMostOne c s (formEntry t e) := by
  cases hr : t.lp.reply with
  | some r =>
    have hkeep := formEntry_portOnly e (s := t) (by simp [hr])
    rcases h with h | ⟨h, -⟩
    · exact .inl (h.trans hkeep)
    · refine .inr ⟨h.after hkeep, ?_⟩
      obtain ⟨l, hl, -, hreply, -⟩ := hkeep
      rw [hl]
      exact hreply ▸ hr ▸ rfl
  | none =>
    rcases h with h | ⟨-, h⟩
    · unfold formEntry
      split
      · have h' : PortOnly s { t with lp.lineErrors := satSucc Config.count16 t.lp.lineErrors } := h.trans ⟨_, rfl, rfl, rfl, fun _ h => h⟩
        exact offerEntry_atMostOne _ h' hr
      · exact offerEntry_atMostOne _ h hr
    · rw [hr] at h; cases h

theorem formEntries_atMostOne (es : List LpEntry) (h : AtMostOne c s t) : AtMostOne c s (es.foldl formEntry t) := by
  induction es generalizing t with
  | nil => exact h
  | cons e es ih => exact ih (formEntry_atMostOne e h)

theorem receiveChars_atMostOne (chars : List LpChar) (s : State) : AtMostOne c s (receiveChars chars s) :=
  formEntries_atMostOne _ (.inl ⟨_, rfl, rfl, rfl, fun _ hskip => by rw [hskip, lpFeed_skipping]⟩)

theorem passGap_atMostOne (h : AtMostOne c s t) (hheld : t.resetHeld.isSome = false) : AtMostOne c s (passGap t) := by
  have hgap : PortOnly t { t with lp.rx := .hunting } := ⟨_, rfl, rfl, rfl, fun h => by rw [hheld] at h; cases h⟩
  have hhear : AtMostOne c s { t with lp.rx := .hunting } := h.imp (fun h => h.trans hgap) fun h => ⟨h.1.after hgap, h.2⟩
  unfold passGap
  split
  · exact h
  · exact hhear
  · exact formEntry_atMostOne _ hhear

/-- A reply ends with nothing served, or with the waiting entry (R173). -/
theorem endReply_cases (s : State) : endReply s = s ∨ endReply s = { s with lp.reply := none, lp.replyTimer := .stopped } ∨
    Serves .replyEnd s (endReply s) := by
  unfold endReply
  split
  · exact .inl rfl
  · split
    · exact .inr (.inl rfl)
    · next e _ =>
      exact .inr (.inr ⟨.inr rfl, { s.lp with reply := none, replyTimer := .stopped, slot := none }, e, _, ⟨rfl, fun _ h => h⟩, rfl, rfl, rfl⟩)

/-- Everything that a command of the port can do: one entry is served or none, and then RS may take an order that has waited (R173,
log 35). -/
theorem exec_port_cases (hc : onPort c = true) (h : exec c s = .next t) :
    ∃ u, ((∃ l, u = { s with lp := l } ∧ l.events = s.lp.events) ∨ Serves c s u) ∧
      (t = u ∨ s.rs.abortOrdered = true ∧ meetsOrder c = true ∧ t = takeWaitingOrder u) := by
  have hone {u : State} (h : AtMostOne c s u) : (∃ l, u = { s with lp := l } ∧ l.events = s.lp.events) ∨ Serves c s u :=
    h.imp (fun ⟨l, hl, hev, _⟩ => ⟨l, hl, hev⟩) And.left
  have hbefore {f : State → State} (hm : meetsOrder c = true) : beforeOrder f s = f s ∨
      s.rs.abortOrdered = true ∧ meetsOrder c = true ∧ beforeOrder f s = takeWaitingOrder (f s) := by
    unfold beforeOrder
    split
    · next ho => exact .inr ⟨ho, hm, rfl⟩
    · exact .inl rfl
  cases c with
  | configWrite _ | configDone _ | statusRead _ | zoneRead _ | viewRead _ | eventRead _ | faultRead _ | stepAppend _
  | queueClear _ | runStart _ | runHold _ | runAbort _ | boatMove _ | lineError _ | badCheckFrame _ _ _
  | unknownKindRequest _ _ => cases h; exact ⟨_, hone (receiveChars_atMostOne _ s), .inl rfl⟩
  | faultClear _ | runResume _ => cases h; exact ⟨_, hone (receiveChars_atMostOne _ s), hbefore rfl⟩
  | replyEnd =>
    cases h
    refine ⟨_, ?_, hbefore rfl⟩
    rcases endReply_cases s with h | h | h
    · exact .inl ⟨s.lp, h, rfl⟩
    · exact .inl ⟨_, h, rfl⟩
    · exact .inr h
  | lpGapTimeout chars =>
    cases h
    refine ⟨_, ?_, .inl rfl⟩
    split
    · exact .inl ⟨s.lp, rfl, rfl⟩
    · next hheld =>
      have hkept : (receiveChars chars s).resetHeld = s.resetHeld :=
        (receiveChars_does (c := .lpGapTimeout chars) chars s).keeps (P := (·.resetHeld = s.resetHeld))
          (fun _ _ _ hact hu => (hact.outside.2.2 (by simp) (by simp) (by simp)).trans hu) rfl
      exact hone (passGap_atMostOne (receiveChars_atMostOne _ s) (by rw [hkept]; simpa using hheld))
  | _ => cases hc

/-- A request entry is turned away by LP, or its owner takes it (R175). -/
theorem serveRequest_cases (kind : Byte) (body : List Byte) (s : State) :
    (∃ code, serveRequest kind body s = answer code s ∧ code ≠ .ok) ∨
    ∃ q : Request, kind = q.kind ∧ (s.released = true ∨ q.early = true) ∧ serveRequest kind body s = serveOwner q body s := by
  unfold serveRequest
  split
  · exact .inl ⟨_, rfl, nofun⟩
  · next q hq =>
    have hkind : q.kind = kind := by simpa using List.find?_some hq
    split
    · exact .inl ⟨_, rfl, nofun⟩
    · next hearly =>
      split
      · exact .inl ⟨_, rfl, nofun⟩
      · refine .inr ⟨q, hkind.symm, ?_, rfl⟩
        cases hrel : s.released
        · exact .inr (by simpa [hrel] using hearly)
        · exact .inl rfl

/-- All that serving an entry can be: it is turned away, or a request's owner takes it (R174, R175). -/
theorem serveEntry_cases (e : LpEntry) (s : State) : (∃ a, serveEntry e s = sendReply a s ∧ a.code ≠ .ok) ∨
    ∃ q body, (s.released = true ∨ q.early = true) ∧
      serveEntry e s = sendReply ⟨q.kind, (serveOwner q body s).code, (serveOwner q body s).body⟩ (serveOwner q body s).state := by
  cases e with
  | reject => exact .inl ⟨_, rfl, nofun⟩
  | badCheck kind => exact .inl ⟨_, rfl, nofun⟩
  | request kind body =>
    have hserve : serveEntry (.request kind body) s =
        sendReply ⟨kind, (serveRequest kind body s).code, (serveRequest kind body s).body⟩ (serveRequest kind body s).state := rfl
    rw [hserve]
    rcases serveRequest_cases kind body s with ⟨code, h, hcode⟩ | ⟨q, rfl, hearly, h⟩ <;> rw [h]
    · exact .inl ⟨_, rfl, hcode⟩
    · exact .inr ⟨q, body, hearly, rfl⟩

end

end Sys2Proof.Machine
end

section
/-!
PROOF. The fault records stand (R159, R165, R168).
-/
namespace Sys2Proof.Machine

/-- What the first and the next fault record hold in `f` they hold in `g`. -/
def FaultsStand (f g : FaultLog) : Prop :=
  (∀ r, f.first = some r → g.first = some r) ∧ ∀ r, f.next = some r → g.next = some r

theorem FaultsStand.refl (f : FaultLog) : FaultsStand f f := ⟨fun _ => id, fun _ => id⟩

theorem FaultsStand.trans {f g h : FaultLog} (h1 : FaultsStand f g) (h2 : FaultsStand g h) : FaultsStand f h :=
  ⟨fun r hr => h2.1 r (h1.1 r hr), fun r hr => h2.2 r (h1.2 r hr)⟩

/-- A record placed takes the place of none (R159). -/
theorem placeFault_stands (x : FaultRecord) (f : FaultLog) : FaultsStand f (placeFault x f) := by
  unfold placeFault
  dsimp only
  split
  · next h =>
    refine ⟨fun r hr => ?_, fun r => id⟩
    rw [hr] at h
    cases h
  · split
    · next h =>
      refine ⟨fun r => id, fun r hr => ?_⟩
      rw [hr] at h
      cases h
    · exact .refl f

section
variable {c : Instr} {r : Option Request} {s t : State}

theorem Act.fl (h : Act c r s t) : FaultsStand s.fl t.fl ∨ r = some .faultClear ∨ c = .powerOnReset := by
  have hsame (hfl : t.fl = s.fl) : FaultsStand s.fl t.fl ∨ r = some .faultClear ∨ c = .powerOnReset := .inl (hfl ▸ .refl _)
  cases h with
  | run h => exact hsame (congrArg (·.fl) h.besideRun)
  | fault h =>
    cases h with
    | take => exact .inl (placeFault_stands _ _)
    | clear h => exact .inr (.inl h)
  | boat h => exact hsame (congrArg (·.fl) h.frame)
  | gas h => exact hsame (congrArg (·.fl) h.frame)
  | zone h => exact hsame (congrArg (·.fl) h.frame)
  | bank h =>
    cases h with
    | mute => rw [enterMute_eq]; exact .inl (placeFault_stands _ _)
    | complete => exact hsame (by simp [completeAnnounce, frameEnds])
    | bank | unmute | join => exact hsame rfl
  | share h => exact hsame (congrArg (·.fl) h.frame)
  | port h => rw [h.frame]; exact .inl (.refl _)
  | load h =>
    cases h with
    | powerOn h => exact .inr (.inr h)
    | release => exact hsame (release_fl s)
    | warm | endReset | stage | refuse => exact hsame rfl
  | choose => exact hsame rfl

theorem Acts.faultsStand (h : Acts c r s t) (hr : r ≠ some .faultClear) (hc : c ≠ .powerOnReset) : FaultsStand s.fl t.fl :=
  h.keeps (P := fun u => FaultsStand s.fl u.fl) (fun _ _ hact hu => hu.trans (by simpa [hr, hc] using hact.fl)) (.refl _)

theorem takeWaitingOrder_besideRun (s : State) : (takeWaitingOrder s).besideRun = s.besideRun := by
  have h (u : State) : (enterAborting u).besideRun = u.besideRun := by
    rcases enterAborting_cases u with h | h <;> rw [h] <;> simp
  rcases takeWaitingOrder_cases s with ⟨-, h'⟩ | ⟨-, ⟨-, h'⟩ | ⟨-, h'⟩⟩ <;> rw [h']
  · rfl
  · rw [h]; rfl

/-- Settles O19: no action but a served FAULT-CLEAR and a power-on reset takes a record out of its place. -/
theorem faultRecordsStand : Obligations.FaultRecordsStand := by
  rintro c s t h ⟨r, hr⟩
  by_cases hc : c = .powerOnReset
  · exact .inl hc
  · right
    have hlost : ¬ FaultsStand s.fl t.fl := fun hst => hr.elim (fun h => h.2 (hst.1 r h.1)) fun h => h.2 (hst.2 r h.1)
    cases hport : onPort c with
    | false => exact absurd ((exec_acts_of_not_onPort hport h).faultsStand nofun hc) hlost
    | true =>
      obtain ⟨u, hu, ht⟩ := exec_port_cases hport h
      have hfl : t.fl = u.fl := by
        rcases ht with rfl | ⟨-, -, rfl⟩
        · rfl
        · exact congrArg (·.fl) (takeWaitingOrder_besideRun u)
      have hreply : t.lp.reply = u.lp.reply := by
        rcases ht with rfl | ⟨-, -, rfl⟩
        · rfl
        · exact congrArg (·.lp.reply) (takeWaitingOrder_besideRun u)
      rw [hfl] at hlost
      rw [hreply]
      rcases hu with ⟨l, rfl, -⟩ | ⟨hfree, l1, e, l2, -, rfl, -, hr2⟩
      · exact absurd (.refl _) hlost
      · refine ⟨hfree, ?_⟩
        rcases serveEntry_cases e { s with lp := l1 } with ⟨a, he, -⟩ | ⟨q, body, hearly, he⟩
        · rw [he] at hlost
          exact absurd (.refl _) hlost
        · rw [he] at hlost
          show l2.reply = _
          rw [hr2, he]
          by_cases hq : q = .faultClear
          · subst hq
            unfold serveOwner serveFaultClear at hlost ⊢
            dsimp only at hlost ⊢
            split at hlost
            · exact absurd (.refl _) hlost
            · next hrun => rw [if_neg hrun]; rfl
          · exact absurd ((serveOwner_acts (c := c) q body hearly).faultsStand (by simpa using hq) hc) hlost

end

end Sys2Proof.Machine
end

section
/-!
PROOF. What alone takes the run out of IDLE, HELD and ABORTING (R11, R17, R21, R23, R24, R82, R162).
-/
namespace Sys2Proof.Machine

section
variable {c : Instr} {r : Option Request} {s t u : State}

/-! ### The run state, action by action -/

/-- An evaluation leaves a run that is not RUNNING alone, and ends one in IDLE or STARVED or not at all (R14, R16). -/
theorem evaluate_run (s : State) : (evaluate s).rs.run = s.rs.run ∨
    s.rs.run = .running ∧ ((evaluate s).rs.run = .idle ∨ (evaluate s).rs.run = .starved) := by
  by_cases hrun : s.rs.run = .running
  · have := evaluate_keeps (fun u => u.rs.run = .running ∨ u.rs.run = .idle ∨ u.rs.run = .starved)
      (hdwell := fun _ _ h => h) (hlast := fun _ _ _ _ _ => by simp) (hstarve := fun _ _ _ _ _ _ => by simp)
      (hnext := fun _ _ _ _ _ _ _ _ => by simp) s (.inl hrun)
    rw [hrun]
    tauto
  · exact .inl (by rw [evaluate_of_ne_running hrun])

theorem stepStart_run (n : StepRecord) (s : State) : (stepStart n s).rs.run = .running ∨ (stepStart n s).rs.run = .idle ∨
    (stepStart n s).rs.run = .starved := by
  rcases evaluate_run (startStep n s) with h | ⟨-, h⟩
  · exact .inl (h.trans (by simp))
  · exact .inr h

/-- What ends an abort: the abort timer's end, or a GC period in which the abort purge is met (R24, R82). -/
def EndsAbort (c : Instr) (s : State) : Prop :=
  c = .abortTimeout ∧ s.rs.abortTimer.active = true ∨ c = .gcPeriod ∧ s.gc.abortPurge = true ∧ s.abortPurgeMet = true

/-- The run states that an action of the run can lead to. -/
inductive RunChange (c : Instr) (r : Option Request) (s t : State) : Prop
  | same (h : t.rs.run = s.rs.run)
  | hold (hs : s.rs.run = .running ∨ s.rs.run = .starved) (ht : t.rs.run = .held)
  | endAbort (hs : s.rs.run = .aborting) (ht : t.rs.run = .idle) (h : EndsAbort c s)
  | abort (h : MayAbort c r s) (ht : t.rs.run = .aborting ∨ t.rs.run = .idle)
  | complete (hs : s.rs.run = .running) (ht : t.rs.run = .idle ∨ t.rs.run = .starved)
  | append (hr : r = some .stepAppend) (hs : s.rs.run = .starved) (ht : t.rs.run = .running ∨ t.rs.run = .idle ∨ t.rs.run = .starved)
  | start (hr : r = some .runStart) (hs : s.rs.run = .idle) (ht : t.rs.run = .running ∨ t.rs.run = .idle ∨ t.rs.run = .starved)
  | resume (hr : r = some .runResume) (hs : s.rs.run = .held) (ht : t.rs.run = .running ∨ t.rs.run = .idle ∨ t.rs.run = .starved)

theorem RunAct.runChange (h : RunAct c r s t) : RunChange c r s t := by
  cases h with
  | hold hs => exact .hold hs (by simp)
  | endAbort hs h => exact .endAbort hs (by simp) h
  | abort b h => exact .abort h (.inl (by simp))
  | abortAtOnce b h => exact .abort h (.inr (by simp))
  | evaluate =>
    rcases evaluate_run s with h | ⟨hs, h⟩
    · exact .same h
    · exact .complete hs h
  | appendStart raw n rest hr _ hs => exact .append hr hs (stepStart_run n _)
  | start n rest hr _ hs => exact .start hr hs (stepStart_run n _)
  | resumeStarved hr hs => exact .resume hr hs (.inr (.inr (by simp)))
  | resumeStart n rest hr hs => exact .resume hr hs (stepStart_run n _)
  | resume hr hs =>
    refine .resume hr hs ?_
    obtain ⟨x, hx⟩ := restartTimeout_rs (leaveHeld .running s)
    rcases evaluate_run (restartTimeout (leaveHeld .running s)) with h | ⟨-, h⟩
    · exact .inl (h.trans (by rw [hx]; simp))
    · exact .inr h
  | endPurge | order | dropOrder | tick | timeOut | dwell | append | clearQueue => exact .same rfl

/-- Every action but a reset leads to no other run state. -/
theorem Act.runChange (h : Act c r s t) (hc : c ≠ .powerOnReset ∧ c ≠ .warmReset) : RunChange c r s t := by
  rcases h.rs with hrun | hload | hrs
  · exact hrun.runChange
  · rcases hload.rs with ⟨h | h, -⟩ | hrs
    · exact absurd h hc.1
    · exact absurd h.1 hc.2
    · exact .same (by rw [hrs])
  · exact .same (by rw [hrs])

/-- A waiting order is one of `s`, or one that this command has given. -/
theorem Act.order_origin (h : Act c r u t) (hu : u.rs.abortOrdered = true → s.rs.abortOrdered = true ∨ GivesOrder c)
    (ht : t.rs.abortOrdered = true) : s.rs.abortOrdered = true ∨ GivesOrder c := by
  rcases h.rs with hrun | hload | hrs
  · by_cases hg : GivesOrder c
    · exact .inr hg
    · cases hrun with
      | order hg' => exact absurd hg' hg
      | abort b _ hb | abortAtOnce b _ hb =>
        have : b = true := by simpa using ht
        subst this
        exact hu (hb.elim Eq.symm nofun)
      | resume =>
        obtain ⟨x, hx⟩ := restartTimeout_rs (leaveHeld .running u)
        rw [evaluate_abortOrdered, hx] at ht
        exact hu (by simpa using ht)
      | hold | endAbort | evaluate | appendStart | start | resumeStarved | resumeStart => exact hu (by simpa using ht)
      | dropOrder => cases ht
      | endPurge | tick | timeOut | dwell | append | clearQueue => exact hu ht
  · rcases hload.rs with ⟨-, hrs⟩ | hrs
    · rw [hrs] at ht; cases ht
    · exact hu (hrs ▸ ht)
  · exact hu (hrs ▸ ht)

/-! ### A chain of actions from IDLE, HELD and ABORTING -/

/-- IDLE is left by a run that is started, and by nothing else. -/
theorem Acts.idle_stays (h : Acts c r s t) (hc : c ≠ .powerOnReset ∧ c ≠ .warmReset) (hr : r ≠ some .runStart)
    (hs : s.rs.run = .idle) : t.rs.run = .idle :=
  h.keeps (P := fun u => u.rs.run = .idle) (fun u v hact hu => by
    cases hact.runChange hc with
    | same h => exact h.trans hu
    | hold h => rw [hu] at h; exact h.elim nofun nofun
    | abort h => have := h.1; rw [hu] at this; cases this
    | endAbort h | complete h | append _ h | resume _ h => rw [hu] at h; cases h
    | start h => exact absurd h hr) hs

/-- What may bring an abort in this command: an order that it gives or that has waited for it, or a served RUN-ABORT. -/
def Ordered (c : Instr) (r : Option Request) (s : State) : Prop :=
  GivesOrder c ∨ s.rs.abortOrdered = true ∧ meetsOrder c = true ∨ r = some .runAbort

/-- Where a part that was in HELD may be but for a resume: there still, or in ABORTING or IDLE by an order. -/
def HeldLeft (c : Instr) (r : Option Request) (s u : State) : Prop :=
  u.rs.run = .held ∨ (u.rs.run = .aborting ∨ u.rs.run = .idle) ∧ Ordered c r s

theorem Act.heldLeft {v : State} (h : Act c r u v) (hc : c ≠ .powerOnReset ∧ c ≠ .warmReset)
    (hr : r ≠ some .runStart ∧ r ≠ some .runResume) (ho : u.rs.abortOrdered = true → s.rs.abortOrdered = true ∨ GivesOrder c)
    (hu : HeldLeft c r s u) : HeldLeft c r s v := by
  have hno {x : RunState} (h1 : u.rs.run = x) (h2 : x ≠ .held) (h3 : x ≠ .aborting) (h4 : x ≠ .idle) : False := by
    subst h1
    rcases hu with h | ⟨h | h, -⟩
    · exact h2 h
    · exact h3 h
    · exact h4 h
  cases h.runChange hc with
  | same h => unfold HeldLeft; rw [h]; exact hu
  | hold h => exact h.elim (fun h => (hno h nofun nofun nofun).elim) fun h => (hno h nofun nofun nofun).elim
  | abort h ht =>
    refine .inr ⟨ht, ?_⟩
    rcases h.2 with h | ⟨h, hm⟩ | h
    · exact .inl h
    · exact (ho h).elim (fun h => .inr (.inl ⟨h, hm⟩)) .inl
    · exact .inr (.inr h)
  | endAbort h ht =>
    rcases hu with h' | ⟨-, h'⟩
    · rw [h] at h'; cases h'
    · exact .inr ⟨.inr ht, h'⟩
  | complete h | append _ h => exact (hno h nofun nofun nofun).elim
  | start h => exact absurd h hr.1
  | resume h => exact absurd h hr.2

theorem Acts.heldLeft (h : Acts c r s t) (hc : c ≠ .powerOnReset ∧ c ≠ .warmReset) (hr : r ≠ some .runStart ∧ r ≠ some .runResume)
    (hs : s.rs.run = .held) : HeldLeft c r s t :=
  (h.keeps (P := fun u => (u.rs.abortOrdered = true → s.rs.abortOrdered = true ∨ GivesOrder c) ∧ HeldLeft c r s u)
    (fun _ _ hact hu => ⟨hact.order_origin hu.1, hact.heldLeft hc hr hu.1 hu.2⟩) ⟨.inl, .inl hs⟩).2

/-- ABORTING is left for IDLE alone, and in the commands that end an abort alone (R24). -/
theorem Acts.aborting_stays (h : Acts c r s t) (hc : c ≠ .powerOnReset ∧ c ≠ .warmReset)
    (hc' : c ≠ .abortTimeout ∧ c ≠ .gcPeriod) (hs : s.rs.run = .aborting) : t.rs.run = .aborting :=
  h.keeps (P := fun u => u.rs.run = .aborting) (fun u v hact hu => by
    cases hact.runChange hc with
    | same h => exact h.trans hu
    | hold h => rw [hu] at h; exact h.elim nofun nofun
    | abort h => have := h.1; rw [hu] at this; cases this
    | endAbort _ _ h => exact h.elim (fun h => absurd h.1 hc'.1) fun h => absurd h.1 hc'.2
    | complete h | append _ h | resume _ h | start _ h => rw [hu] at h; cases h) hs

/-- In a command in which nothing is served ABORTING is left for IDLE alone. -/
theorem Acts.aborting_or_idle (h : Acts c none s t) (hc : c ≠ .powerOnReset ∧ c ≠ .warmReset) (hs : s.rs.run = .aborting) :
    t.rs.run = .aborting ∨ t.rs.run = .idle :=
  h.keeps (P := fun u => u.rs.run = .aborting ∨ u.rs.run = .idle) (fun u v hact hu => by
    have hno {x : RunState} (h1 : u.rs.run = x) (h2 : x ≠ .aborting) (h3 : x ≠ .idle) : False := by
      subst h1; exact hu.elim h2 h3
    cases hact.runChange hc with
    | same h => rw [h]; exact hu
    | endAbort _ h => exact .inr h
    | abort _ h => exact h
    | hold h => exact h.elim (fun h => (hno h nofun nofun).elim) fun h => (hno h nofun nofun).elim
    | complete h => exact (hno h nofun nofun).elim
    | append h | start h | resume h => cases h) (.inl hs)

/-! ### A GC period in ABORTING -/

/-- A line's test leaves an abort under way, whatever deviates (R81, R162). -/
theorem testLine_aborting (s0 : State) (l : GasLine) (hs : s.rs.run = .aborting) : (testLine s0 s l).rs.run = .aborting := by
  have hwait (u : State) (hu : u.rs.run = .aborting) : (takeWaitingOrder u).rs.run = .aborting := by
    rcases takeWaitingOrder_cases u with ⟨-, h⟩ | ⟨-, ⟨-, h⟩ | ⟨hab, -⟩⟩
    · rw [h]; exact hu
    · rw [h]; exact hu
    · rw [hu] at hab; cases hab
  have hreport (k : FaultKind) (sub : FaultSubject) (v : FaultValue) (u : State) (hu : u.rs.run = .aborting)
      (hk : faultClass k sub = .hold) : (reportFault k sub v u).rs.run = .aborting := by
    unfold reportFault reportFaultMeeting
    dsimp only
    rw [hk, hu]
    exact hu
  unfold testLine
  dsimp only
  split
  · exact hreport _ _ _ _ (hwait _ hs) rfl
  · exact hs

theorem testLines_aborting (s0 : State) (ls : List GasLine) (hs : s.rs.run = .aborting) :
    (ls.foldl (testLine s0) s).rs.run = .aborting := by
  induction ls generalizing s with
  | nil => exact hs
  | cons l ls ih => exact ih (testLine_aborting s0 l hs)

/-- A GC period ends an abort where the abort purge in progress is met by what the period adds (R78, R82). -/
theorem gcPasses_aborting (hs : s.rs.run = .aborting) (ht : (gcPasses s).rs.run ≠ .aborting) :
    s.gc.abortPurge = true ∧ (accumulatePurge s).abortPurgeMet = true := by
  by_contra hno
  refine ht ?_
  unfold gcPasses
  split
  · have hstages : (purgeStages s).rs.run = .aborting := by
      have hev : evaluate (accumulatePurge s) = accumulatePurge s := evaluate_of_ne_running (by simp [accumulatePurge, hs])
      unfold purgeStages
      dsimp only
      rw [hev, ite_self, testAbortPurge]
      split
      · next h =>
        rw [Bool.and_eq_true] at h
        exact absurd h hno
      · exact hs
    show (commit _ _).rs.run = _
    rw [commit_rs]
    exact testLines_aborting s _ hstages
  · exact hs

theorem gcPeriod_aborting (h : exec .gcPeriod s = .next t) (hs : s.rs.run = .aborting) (ht : t.rs.run = .idle) :
    s.gc.abortPurge = true ∧ (accumulatePurge s).abortPurgeMet = true := by
  refine gcPasses_aborting hs fun hp => ?_
  cases h
  unfold beforeOrder at ht
  split at ht
  · rcases takeWaitingOrder_cases (gcPasses s) with ⟨-, h⟩ | ⟨-, ⟨-, h⟩ | ⟨hab, -⟩⟩
    · rw [h, hp] at ht; cases ht
    · rw [h] at ht
      exact absurd (hp.symm.trans ht) nofun
    · rw [hp] at hab; cases hab
  · rw [hp] at ht; cases ht

theorem abortTimeout_idle (h : exec .abortTimeout s = .next t) (hs : s.rs.run = .aborting) (ht : t.rs.run = .idle) :
    s.rs.abortTimer.active = true := by
  by_contra hno
  cases h
  rw [if_neg fun h => hno h.2, hs] at ht
  cases ht

/-! ### The requests -/

/-- What the service of a request makes of a run that it takes out of IDLE (R11). -/
theorem serveOwner_idle (q : Request) (body : List Byte) (hc : c ≠ .powerOnReset ∧ c ≠ .warmReset)
    (hearly : s.released = true ∨ q.early = true) (hs : s.rs.run = .idle) (ht : (serveOwner q body s).state.rs.run ≠ .idle) :
    q = .runStart ∧ (serveOwner q body s).code = .ok ∧ (serveOwner q body s).body = [] ∧ s.released = true ∧
      s.fl.pending = false ∧ s.rs.queue ≠ [] := by
  by_cases hq : q = .runStart
  · subst hq
    unfold serveOwner serveRunStart at ht ⊢
    dsimp only at ht ⊢
    rw [if_neg (by simp [hs])] at ht ⊢
    split at ht
    · exact absurd hs ht
    · next hp =>
      rw [if_neg hp]
      split at ht
      · exact absurd hs ht
      · next he =>
        rw [if_neg he]
        exact ⟨rfl, rfl, rfl, by simpa [Request.early] using hearly, by simpa using hp, by simpa using he⟩
  · exact absurd ((serveOwner_acts (c := c) q body hearly).idle_stays hc (by simpa using hq) hs) ht

/-- RUN-RESUME and RUN-ABORT are taken in HELD, and RUN-START is not (R11, R21, R23). -/
theorem serveOwner_held_answer (body : List Byte) (hs : s.rs.run = .held) :
    ((serveOwner .runResume body s).code = .ok ∧ (serveOwner .runResume body s).body = []) ∧
    ((serveOwner .runAbort body s).code = .ok ∧ (serveOwner .runAbort body s).body = []) ∧
    (serveOwner .runStart body s).state = s := by
  refine ⟨?_, ?_, ?_⟩
  · simp only [serveOwner, serveRunResume, hs]
    split
    · split <;> exact ⟨rfl, rfl⟩
    · exact ⟨rfl, rfl⟩
    · next h1 _ => exact (h1 rfl).elim
  · simp only [serveOwner, serveRunAbort, hs]
    exact ⟨rfl, rfl⟩
  · simp only [serveOwner, serveRunStart, hs]
    rfl

/-- An abort has been ordered in this command, or has waited for it, or RUN-ABORT asks for it. -/
theorem Acts.aborting_ordered (h : Acts c r s t) (hc : c ≠ .powerOnReset ∧ c ≠ .warmReset) (hs : s.rs.run ≠ .aborting)
    (ht : t.rs.run = .aborting) : Ordered c r s :=
  (h.keeps (P := fun u => (u.rs.abortOrdered = true → s.rs.abortOrdered = true ∨ GivesOrder c) ∧
      (u.rs.run = .aborting → Ordered c r s))
    (fun u v hact hu => by
      refine ⟨hact.order_origin hu.1, fun hv => ?_⟩
      cases hact.runChange hc with
      | same h => exact hu.2 (h ▸ hv)
      | abort h ht =>
        rcases h.2 with h | ⟨h, hm⟩ | h
        · exact .inl h
        · exact (hu.1 h).elim (fun h => .inr (.inl ⟨h, hm⟩)) .inl
        · exact .inr (.inr h)
      | hold _ h | endAbort _ h => rw [hv] at h; cases h
      | complete _ h => rw [hv] at h; exact h.elim nofun nofun
      | append _ _ h | start _ _ h | resume _ _ h => rw [hv] at h; rcases h with h | h | h <;> cases h)
    ⟨.inl, fun h => absurd h hs⟩).2 ht

/-- The obligation's word for an order that this command gives or that has waited for it. -/
def OrderGiven (c : Instr) (s : State) : Prop :=
  (∃ b1 b2 b3 b4, c = .sampleRecord b1 b2 b3 b4) ∨ c = .holdTimerExpiry .z3 ∨ c = .bdEvaluation ∨
    s.rs.abortOrdered = true ∧ meetsOrder c = true

theorem Ordered.given (h : Ordered c r s) (hr : r ≠ some .runAbort) : OrderGiven c s := by
  rcases h with h | h | h
  · cases h with
    | sample => exact .inl ⟨_, _, _, _, rfl⟩
    | zoneLost => exact .inr (.inl rfl)
    | boat => exact .inr (.inr (.inl rfl))
  · exact .inr (.inr (.inr h))
  · exact absurd h hr

/-- The six clauses, with the requests served by their kind bytes. -/
structure RunLeft (c : Instr) (s t : State) (served : Byte → Prop) : Prop where
  idle : s.rs.run = .idle → t.rs.run ≠ .idle → served 0x22 ∧ s.released = true ∧ s.fl.pending = false ∧ s.rs.queue ≠ []
  resumed : s.rs.run = .held → t.rs.run = .running ∨ t.rs.run = .starved → served 0x24
  aborted : s.rs.run = .held → t.rs.run = .aborting → served 0x25 ∨ OrderGiven c s
  ended : s.rs.run = .held → t.rs.run = .idle → served 0x25 ∨ served 0x24 ∨ OrderGiven c s
  aborting : s.rs.run = .aborting → t.rs.run = .aborting ∨ t.rs.run = .idle
  abortEnded : s.rs.run = .aborting → t.rs.run = .idle → EndsAbort c (accumulatePurge s)

/-- Where the run state stays, nothing has left it. -/
theorem RunLeft.of_same {served : Byte → Prop} (h : t.rs.run = s.rs.run) : RunLeft c s t served where
  idle h1 h2 := absurd (h.trans h1) h2
  resumed h1 h2 := by rw [h, h1] at h2; exact h2.elim nofun nofun
  aborted h1 h2 := by rw [h, h1] at h2; cases h2
  ended h1 h2 := by rw [h, h1] at h2; cases h2
  aborting h1 := .inl (h.trans h1)
  abortEnded h1 h2 := by rw [h, h1] at h2; cases h2

/-- A command in which nothing is served. -/
theorem exec_runLeft (hport : onPort c = false) (hc : c ≠ .powerOnReset ∧ c ≠ .warmReset) (h : exec c s = .next t)
    (served : Byte → Prop) : RunLeft c s t served := by
  have hacts := exec_acts_of_not_onPort hport h
  have hheld (hs : s.rs.run = .held) := hacts.heldLeft hc ⟨nofun, nofun⟩ hs
  refine ⟨fun h1 h2 => absurd (hacts.idle_stays hc nofun h1) h2, fun h1 h2 => ?_, fun h1 h2 => ?_, fun h1 h2 => ?_,
    hacts.aborting_or_idle hc, fun h1 h2 => ?_⟩
  · rcases hheld h1 with h' | ⟨h' | h', -⟩ <;> rw [h'] at h2 <;> exact h2.elim nofun nofun
  · exact .inr ((hacts.aborting_ordered hc (by simp [h1]) h2).given nofun)
  · rcases hheld h1 with h' | ⟨-, h'⟩
    · rw [h'] at h2; cases h2
    · exact .inr (.inr (h'.given nofun))
  · by_cases hto : c = .abortTimeout
    · subst hto
      exact .inl ⟨rfl, abortTimeout_idle (s := s) h h1 h2⟩
    · by_cases hgc : c = .gcPeriod
      · subst hgc
        obtain ⟨hp, hm⟩ := gcPeriod_aborting h h1 h2
        exact .inr ⟨rfl, hp, hm⟩
      · rw [hacts.aborting_stays hc ⟨hto, hgc⟩ h1] at h2; cases h2

theorem runLeft_of_served (q : Request) (body : List Byte) (hport : onPort c = true) (hearly : s.released = true ∨ q.early = true)
    {served : Byte → Prop} (hserved : (serveOwner q body s).code = .ok → (serveOwner q body s).body = [] → served q.kind) :
    RunLeft c s (serveOwner q body s).state served := by
  have hc : c ≠ .powerOnReset ∧ c ≠ .warmReset := ⟨fun h => (by subst h; cases hport), fun h => (by subst h; cases hport)⟩
  have hc' : c ≠ .abortTimeout ∧ c ≠ .gcPeriod := ⟨fun h => (by subst h; cases hport), fun h => (by subst h; cases hport)⟩
  have hacts := serveOwner_acts (c := c) q body hearly
  have habort (h1 : s.rs.run = .held) (h2 : Ordered c (some q) s) : served 0x25 ∨ OrderGiven c s := by
    by_cases hq : q = .runAbort
    · subst hq
      exact .inl (hserved (serveOwner_held_answer body h1).2.1.1 (serveOwner_held_answer body h1).2.1.2)
    · exact .inr (h2.given (by simpa using hq))
  have hresume (h1 : s.rs.run = .held) : q = .runResume ∧ served 0x24 ∨ HeldLeft c (some q) s (serveOwner q body s).state := by
    by_cases hq : q = .runResume
    · subst hq
      exact .inl ⟨rfl, hserved (serveOwner_held_answer body h1).1.1 (serveOwner_held_answer body h1).1.2⟩
    · by_cases hq' : q = .runStart
      · subst hq'
        rw [(serveOwner_held_answer body h1).2.2]
        exact .inr (.inl h1)
      · exact .inr (hacts.heldLeft hc ⟨by simpa using hq', by simpa using hq⟩ h1)
  refine ⟨fun h1 h2 => ?_, fun h1 h2 => ?_, fun h1 h2 => ?_, fun h1 h2 => ?_, fun h1 => ?_, fun h1 h2 => ?_⟩
  · obtain ⟨rfl, hcode, hbody, hrest⟩ := serveOwner_idle (c := c) q body hc hearly h1 h2
    exact ⟨hserved hcode hbody, hrest⟩
  · rcases hresume h1 with ⟨-, h⟩ | h
    · exact h
    · rcases h with h' | ⟨h' | h', -⟩ <;> rw [h'] at h2 <;> exact h2.elim nofun nofun
  · exact habort h1 (hacts.aborting_ordered hc (by simp [h1]) h2)
  · rcases hresume h1 with ⟨-, h⟩ | h
    · exact .inr (.inl h)
    · rcases h with h' | ⟨-, h'⟩
      · rw [h'] at h2; cases h2
      · exact (habort h1 h').imp id .inr
  · exact .inl (hacts.aborting_stays hc hc' h1)
  · rw [hacts.aborting_stays hc hc' h1] at h2; cases h2

/-- The order that has waited, taken after the service. -/
theorem RunLeft.order {served : Byte → Prop} (h : RunLeft c s u served) (ho : OrderGiven c s) :
    RunLeft c s (takeWaitingOrder u) served := by
  have hcases : (takeWaitingOrder u).rs.run = u.rs.run ∨ u.rs.run.abortable = true ∧
      ((takeWaitingOrder u).rs.run = .aborting ∨ (takeWaitingOrder u).rs.run = .idle) := by
    rcases takeWaitingOrder_cases u with ⟨-, h⟩ | ⟨-, ⟨-, h⟩ | ⟨hab, h⟩⟩
    · exact .inl (by rw [h])
    · exact .inl (by rw [h])
    · refine .inr ⟨hab, ?_⟩
      rw [h]
      rcases enterAborting_cases { u with rs.abortOrdered := false } with h | h <;> rw [h] <;> simp
  have hno (hs : s.rs.run = .aborting) (hab : u.rs.run.abortable = true) : False := by
    rcases h.aborting hs with h | h <;> rw [h] at hab <;> cases hab
  refine ⟨fun h1 h2 => h.idle h1 fun hu => ?_, fun h1 h2 => ?_, fun _ _ => .inr ho, fun _ _ => .inr (.inr ho), fun h1 => ?_,
    fun h1 h2 => ?_⟩
  · rcases hcases with h' | ⟨hab, -⟩
    · exact h2 (h'.trans hu)
    · rw [hu] at hab; cases hab
  · rcases hcases with h' | ⟨-, h' | h'⟩
    · exact h.resumed h1 (h' ▸ h2)
    · rw [h'] at h2; exact h2.elim nofun nofun
    · rw [h'] at h2; exact h2.elim nofun nofun
  · rcases hcases with h' | ⟨hab, -⟩
    · rw [h']; exact h.aborting h1
    · exact (hno h1 hab).elim
  · rcases hcases with h' | ⟨hab, -⟩
    · exact h.abortEnded h1 (h'.symm.trans h2)
    · exact (hno h1 hab).elim

/-- A request that this command served, with its answer in progress. -/
def ServedNow (c : Instr) (s t : State) (kind : Byte) : Prop :=
  (s.lp.reply = none ∨ c = .replyEnd) ∧ t.lp.reply = some ⟨kind, .ok, []⟩

theorem exec_port_runLeft (hport : onPort c = true) (h : exec c s = .next t) : RunLeft c s t (ServedNow c s t) := by
  obtain ⟨u, hu, ht⟩ := exec_port_cases hport h
  have hreply : t.lp.reply = u.lp.reply := by
    rcases ht with rfl | ⟨-, -, rfl⟩
    · rfl
    · exact congrArg (·.lp.reply) (takeWaitingOrder_besideRun u)
  have hleft : RunLeft c s u (ServedNow c s t) := by
    unfold ServedNow
    rw [hreply]
    rcases hu with ⟨l, rfl, -⟩ | ⟨hfree, l1, e, l2, -, rfl, -, hr2⟩
    · exact .of_same rfl
    · rcases serveEntry_cases e { s with lp := l1 } with ⟨a, he, -⟩ | ⟨q, body, hearly, he⟩
      · rw [he]; exact .of_same rfl
      · have hq := runLeft_of_served (s := { s with lp := l1 }) q body hport hearly
          (served := fun kind => (s.lp.reply = none ∨ c = .replyEnd) ∧ l2.reply = some ⟨kind, .ok, []⟩)
          fun hcode hbody => ⟨hfree, by rw [hr2, he]; show some _ = _; rw [hcode, hbody]⟩
        rw [he]
        exact ⟨hq.idle, hq.resumed, hq.aborted, hq.ended, hq.aborting, hq.abortEnded⟩
  rcases ht with rfl | ⟨ho, hm, rfl⟩
  · exact hleft
  · exact hleft.order (.inr (.inr (.inr ⟨ho, hm⟩)))

end

/-- Settles O20: action by action, with the requests that leave IDLE and HELD read off their service. -/
theorem runStateChanges : Obligations.RunStateChanges := by
  intro c s t h
  dsimp only
  by_cases hreset : c = .powerOnReset ∨ c = .warmReset ∧ s.resetHeld = none
  · have ht : t.rs.run = .idle := by
      rcases hreset with rfl | ⟨rfl, hheld⟩ <;> cases h
      · rfl
      · rw [hheld]; rfl
    exact ⟨fun _ h => absurd ht h, fun _ h => (by rw [ht] at h; exact h.elim nofun nofun), fun _ h => (by rw [ht] at h; cases h),
      fun _ _ => .inr (.inr (.inr hreset)), fun _ => .inr ht, fun _ _ => .inl hreset⟩
  · have hleft : RunLeft c s t (ServedNow c s t) := by
      by_cases hwarm : c = .warmReset
      · subst hwarm
        have hheld : s.resetHeld ≠ none := fun h => hreset (.inr ⟨rfl, h⟩)
        cases h
        exact .of_same (by rw [if_pos (Option.isSome_iff_ne_none.2 hheld)])
      · by_cases hport : onPort c = true
        · exact exec_port_runLeft hport h
        · exact exec_runLeft (by simpa using hport) ⟨fun h => hreset (.inl h), hwarm⟩ h _
    exact ⟨hleft.idle, hleft.resumed, hleft.aborted, fun h1 h2 => (hleft.ended h1 h2).imp id (Or.imp id .inl), hleft.aborting,
      fun h1 h2 => .inr ((hleft.abortEnded h1 h2).imp id fun ⟨hc, hp, hm⟩ => ⟨hc, hp, of_decide_eq_true hm⟩)⟩

end Sys2Proof.Machine
end

section
/-!
PROOF. The changes that each leave their event pending (R178).
-/
namespace Sys2Proof.Machine

/-- Every change from `s` to `t` that R178 names has its event pending in `t`; an entry to STARVED where `n` holds. -/
structure Tells (n : Prop) (s t : State) : Prop where
  held : t.rs.run = .held → s.rs.run ≠ .held → .held ∈ t.lp.events
  starved : n → t.rs.run = .starved → s.rs.run ≠ .starved → .starved ∈ t.lp.events
  idle : t.rs.run = .idle → s.rs.run ≠ .idle → .runEnded ∈ t.lp.events
  current : t.rs.current ≠ s.rs.current → t.rs.current.isSome → .stepStarted ∈ t.lp.events
  fault : s.fl.count < t.fl.count → .fault ∈ t.lp.events
  gated : t.motion = .gated → s.motion ≠ .gated → .boatGated ∈ t.lp.events
  level : t.bu.level ≠ s.bu.level → .curtail ∈ t.lp.events
  link : t.linkState ≠ s.linkState → s.linkState ≠ .inactive → .link ∈ t.lp.events
  ready : t.released = true → s.released = false → .ready ∈ t.lp.events

section
variable {c : Instr} {r : Option Request} {n m : Prop} {s t u : State}

theorem mem_commit_events {k : EventKind} (s0 : State) (h : k ∈ s.lp.events) : k ∈ (commit s0 s).lp.events := by
  rw [commit_events, boatReact_events]
  split
  · exact mem_addEvent.2 (.inr h)
  · exact h

/-- Where nothing changes that R178 names, nothing is to tell. -/
theorem Tells.of_same (hrs : t.rs = s.rs) (hfl : t.fl = s.fl) (hm : t.motion = s.motion) (hl : t.bu.level = s.bu.level)
    (hk : t.linkState = s.linkState) (hr : t.released = s.released) : Tells n s t where
  held h h' := absurd (hrs ▸ h) h'
  starved _ h h' := absurd (hrs ▸ h) h'
  idle h h' := absurd (hrs ▸ h) h'
  current h _ := absurd (by rw [hrs]) h
  fault h := absurd h (by rw [hfl]; exact Nat.lt_irrefl _)
  gated h h' := absurd (hm ▸ h) h'
  level h := absurd hl h
  link h _ := absurd hk h
  ready h h' := by rw [← hr, h] at h'; cases h'

theorem Tells.trans (h1 : Tells n s t) (h2 : Tells n t u) (hev : ∀ k ∈ t.lp.events, k ∈ u.lp.events) : Tells n s u where
  held h h' := by by_cases ht : t.rs.run = .held <;> [exact hev _ (h1.held ht h'); exact h2.held h ht]
  starved hn h h' := by by_cases ht : t.rs.run = .starved <;> [exact hev _ (h1.starved hn ht h'); exact h2.starved hn h ht]
  idle h h' := by by_cases ht : t.rs.run = .idle <;> [exact hev _ (h1.idle ht h'); exact h2.idle h ht]
  current h h' := by
    by_cases hu : u.rs.current = t.rs.current
    · rw [hu] at h h'; exact hev _ (h1.current h h')
    · exact h2.current hu h'
  fault h := (Nat.lt_or_ge s.fl.count t.fl.count).elim (fun h => hev _ (h1.fault h)) fun h' => h2.fault (Nat.lt_of_le_of_lt h' h)
  gated h h' := by by_cases ht : t.motion = .gated <;> [exact hev _ (h1.gated ht h'); exact h2.gated h ht]
  level h := by
    by_cases hu : u.bu.level = t.bu.level
    · rw [hu] at h; exact hev _ (h1.level h)
    · exact h2.level hu
  link h h' := by
    by_cases ht : t.linkState = s.linkState
    · rw [← ht] at h h'; exact h2.link h h'
    · exact hev _ (h1.link ht h')
  ready h h' := by
    cases ht : t.released
    · exact h2.ready h ht
    · exact hev _ (h1.ready ht h')

theorem Tells.mono (h : Tells n s t) (hmn : m → n) : Tells m s t :=
  { h with starved := fun hm => h.starved (hmn hm) }

/-- An entry to GATED, followed by its reaction, leaves BOAT-GATED (R90). -/
theorem Reaction.gated (h : Reaction c r s t) (hr : r ≠ some .eventRead) (ht : t.motion = .gated) (hs : s.motion ≠ .gated) :
    .boatGated ∈ t.lp.events :=
  h.keeps (P := fun u => u.motion = .gated → .boatGated ∈ u.lp.events) (fun u v hre hu hv => by
    by_cases hg : u.motion = .gated
    · exact hre.events hr _ (hu hg)
    · exact hre.gated hv hg) (fun h => absurd h hs) ht

theorem Reaction.events (h : Reaction c r s t) (hr : r ≠ some .eventRead) : ∀ k ∈ s.lp.events, k ∈ t.lp.events := fun k hk =>
  h.keeps (P := fun u => k ∈ u.lp.events) (fun _ _ hre hu => hre.events hr k hu) hk

/-- The part tells `t` from `s`, and has forgotten nothing. -/
def Recounts (n : Prop) (s t : State) : Prop := Tells n s t ∧ ∀ k ∈ s.lp.events, k ∈ t.lp.events

theorem Recounts.refl (s : State) : Recounts n s s := ⟨.of_same rfl rfl rfl rfl rfl rfl, fun _ => id⟩

theorem Recounts.trans (h1 : Recounts n s t) (h2 : Recounts n t u) : Recounts n s u :=
  ⟨h1.1.trans h2.1 h2.2, fun k hk => h2.2 k (h1.2 k hk)⟩

/-! ### The actions of the run -/

/-- A change of the run, with its reactions. -/
theorem Recounts.of_run (hre : Reacts c none s t) (hb : t.besideRun = s.besideRun)
    (hheld : t.rs.run = .held → s.rs.run ≠ .held → .held ∈ t.lp.events)
    (hstarved : n → t.rs.run = .starved → s.rs.run ≠ .starved → .starved ∈ t.lp.events)
    (hidle : t.rs.run = .idle → s.rs.run ≠ .idle → .runEnded ∈ t.lp.events)
    (hcurrent : t.rs.current ≠ s.rs.current → t.rs.current.isSome → .stepStarted ∈ t.lp.events) :
    Recounts n s t := by
  have hfl : t.fl = s.fl := congrArg (·.fl) hb
  have hl : t.bu.level = s.bu.level := congrArg (·.bu.level) hb
  have hk : t.linkState = s.linkState := show t.besideRun.linkState = s.besideRun.linkState by rw [hb]
  have hr : t.released = s.released := show t.besideRun.released = s.besideRun.released by rw [hb]
  exact ⟨{
    held := hheld, starved := hstarved, idle := hidle, current := hcurrent
    fault := fun h => absurd h (by rw [hfl]; exact Nat.lt_irrefl _)
    gated := hre.gated
    level := fun h => absurd hl h
    link := fun h _ => absurd hk h
    ready := fun h h' => by rw [← hr, h] at h'; cases h' }, hre.events nofun⟩

/-- A change of RS's own records beside the run state and the current step. -/
theorem Recounts.of_silent_run (hre : Reacts .zcPeriod none s t) (hb : t.besideRun = s.besideRun) (hrun : t.rs.run = s.rs.run)
    (hcur : t.rs.current = s.rs.current ∨ t.rs.current = none) : Recounts n s t :=
  .of_run hre hb (fun h h' => absurd (hrun ▸ h) h') (fun _ h h' => absurd (hrun ▸ h) h') (fun h h' => absurd (hrun ▸ h) h')
    fun h h' => hcur.elim (absurd · h) fun hn => by rw [hn] at h'; cases h'

theorem enterHeld_recounts (s : State) : Recounts n s (enterHeld s) :=
  .of_run (enterHeld_reacts (c := .zcPeriod) s) (enterHeld_besideRun s) (fun _ _ => mem_commit_events _ (mem_raiseEvent.2 (.inl rfl)))
    (fun _ h => by simp at h) (fun h => by simp at h) fun h => by simp at h

theorem enterIdle_recounts (s : State) : Recounts n s (enterIdle s) :=
  .of_run (enterIdle_reacts (c := .zcPeriod) s) (enterIdle_besideRun s) (fun h => by simp at h)
    (fun _ h => by simp at h) (fun _ _ => mem_commit_events _ (mem_raiseEvent.2 (.inl rfl))) fun _ h => by simp at h

theorem beginAbort_recounts (s : State) : Recounts n s (beginAbort s) :=
  .of_run (beginAbort_reacts (c := .zcPeriod) s) (beginAbort_besideRun s) (fun h => by simp at h)
    (fun _ h => by simp at h) (fun h => by simp at h) fun _ h => by simp at h

theorem startStep_recounts (x : StepRecord) (s : State) : Recounts n s (startStep x s) :=
  .of_run (startStep_reacts (c := .zcPeriod) x s) (startStep_besideRun x s) (fun h => by simp at h)
    (fun _ h => by simp at h) (fun h => by simp at h) fun _ _ => mem_commit_events _ (mem_raiseEvent.2 (.inl rfl))

theorem finishStep_recounts (x : StepRecord) (s : State) : Recounts n s (finishStep x s) :=
  .of_silent_run (finishStep_reacts x s) rfl rfl (.inr rfl)

theorem starve_recounts (h : s.rs.run = .running) : Recounts n s (starve s) :=
  .of_run (starve_reacts (c := .zcPeriod) h) rfl nofun (fun _ _ _ => mem_raiseEvent.2 (.inl rfl)) nofun fun h => absurd rfl h

theorem setQueue_recounts (q : List StepRecord) (s : State) : Recounts n s { s with rs.queue := q } :=
  .of_silent_run (.of_silent rfl) rfl rfl (.inl rfl)

theorem evaluate_recounts (s : State) : Recounts n s (evaluate s) :=
  evaluate_keeps (Recounts n s)
    (hdwell := fun _ _ h => h.trans (.of_silent_run (.of_silent rfl) rfl rfl (.inl rfl)))
    (hlast := fun _ _ _ _ h => (h.trans (finishStep_recounts _ _)).trans (enterIdle_recounts _))
    (hstarve := fun _ _ hrun _ _ h => (h.trans (finishStep_recounts _ _)).trans (starve_recounts hrun))
    (hnext := fun _ _ _ _ _ _ _ h => ((h.trans (finishStep_recounts _ _)).trans (setQueue_recounts _ _)).trans
      (startStep_recounts _ _)) s (.refl s)

theorem stepStart_recounts (x : StepRecord) (s : State) : Recounts n s (stepStart x s) :=
  (startStep_recounts x s).trans (evaluate_recounts _)

/-- A hold that ends in RUNNING (R21). -/
theorem leaveHeld_recounts (run : RunState) (hrun : run = .running ∨ run = .starved ∧ ¬ n) (s : State) :
    Recounts n s (leaveHeld run s) := by
  refine .of_run (leaveHeld_reacts (c := .zcPeriod) run s) (leaveHeld_besideRun run s) (fun h => ?_) (fun hn h => ?_)
    (fun h => ?_) fun h => ?_
  · rw [leaveHeld_rs] at h; rcases hrun with rfl | ⟨rfl, -⟩ <;> cases h
  · rw [leaveHeld_rs] at h
    rcases hrun with rfl | ⟨-, hn'⟩
    · cases h
    · exact absurd hn hn'
  · rw [leaveHeld_rs] at h; rcases hrun with rfl | ⟨rfl, -⟩ <;> cases h
  · rw [leaveHeld_rs] at h; exact absurd rfl h

theorem RunAct.recounts (h : RunAct c r s t) : Recounts (r ≠ some .runResume) s t := by
  cases h with
  | hold => exact enterHeld_recounts s
  | endAbort => exact enterIdle_recounts s
  | endPurge => exact ⟨.of_same rfl rfl rfl rfl rfl rfl, fun _ => id⟩
  | abort b => exact .trans (t := { s with rs.abortOrdered := b }) (Recounts.of_silent_run (.of_silent rfl) rfl rfl (.inl rfl)) (beginAbort_recounts _)
  | abortAtOnce b =>
    exact .trans (t := { s with rs.abortOrdered := b }) (Recounts.of_silent_run (.of_silent rfl) rfl rfl (.inl rfl)) ((beginAbort_recounts _).trans (enterIdle_recounts _))
  | evaluate => exact evaluate_recounts s
  | appendStart raw x rest => exact (setQueue_recounts rest s).trans (stepStart_recounts x _)
  | start x rest =>
    exact .trans (t := { s with
        rs.clock := 0, rs.clockPhase := .running 1000, rs.done := 0, rs.discarded := 0, rs.lastLabel := none
        rs.thermal := none, rs.gas := none, rs.queue := rest }) (.of_silent_run (.of_silent rfl) rfl rfl (.inl rfl))
      (stepStart_recounts x _)
  | resumeStarved hr => exact leaveHeld_recounts .starved (.inr ⟨rfl, fun h => h hr⟩) s
  | resumeStart x rest => exact (leaveHeld_recounts .running (.inl rfl) s).trans ((setQueue_recounts rest _).trans (stepStart_recounts x _))
  | resume =>
    refine (leaveHeld_recounts .running (.inl rfl) s).trans (.trans ?_ (evaluate_recounts _))
    generalize leaveHeld .running s = u
    unfold restartTimeout
    split
    · exact .of_silent_run (.of_silent rfl) rfl rfl (.inl rfl)
    · exact .refl u
  | order | dropOrder | tick | timeOut | dwell | append | clearQueue => exact Recounts.of_silent_run (.of_silent rfl) rfl rfl (.inl rfl)

/-! ### Every action -/

/-- An action that leaves RS alone. -/
theorem Recounts.of_frame (hre : Reaction c r s t) (hr : r ≠ some .eventRead) (hrs : t.rs = s.rs)
    (hfl : t.fl.count ≤ s.fl.count ∨ .fault ∈ t.lp.events) (hlevel : t.bu.level = s.bu.level ∨ .curtail ∈ t.lp.events)
    (hlink : t.linkState = s.linkState ∨ s.linkState = .inactive ∨ .link ∈ t.lp.events)
    (hready : t.released = s.released ∨ .ready ∈ t.lp.events) : Recounts n s t :=
  ⟨{ held := fun h h' => absurd (hrs ▸ h) h'
     starved := fun _ h h' => absurd (hrs ▸ h) h'
     idle := fun h h' => absurd (hrs ▸ h) h'
     current := fun h _ => absurd (by rw [hrs]) h
     fault := fun h => hfl.resolve_left (Nat.not_le.2 h)
     gated := hre.gated hr
     level := fun h => hlevel.resolve_left h
     link := fun h h' => (hlink.resolve_left h).resolve_left h'
     ready := fun h h' => hready.resolve_left fun h'' => by rw [← h'', h] at h'; cases h' }, hre.events hr⟩

theorem linkState_congr (hp : t.bl.phase = s.bl.phase) (hi : t.bl.isolated = s.bl.isolated) (hm : t.bl.mute = s.bl.mute) :
    t.linkState = s.linkState := by
  simp only [State.linkState, hp, hi, hm]

theorem released_congr (h : t.cl = s.cl) : t.released = s.released := by simp only [State.released, h]

theorem BankAct.recounts (h : BankAct c s t) (hre : Reaction c r s t) (hr : r ≠ some .eventRead) (hsc : s.StartCoherent) :
    Recounts n s t := by
  have hraised {k : EventKind} {u : State} : k ∈ (raiseEvent k u).lp.events := mem_raiseEvent.2 (.inl rfl)
  refine .of_frame hre hr (congrArg (·.rs) h.frame) ?_ (.inl (congrArg (·.bu.level) h.frame)) ?_ ?_
  · cases h with
    | mute => rw [enterMute_eq]; exact .inr (mem_raiseEvent.2 (.inr hraised))
    | complete => exact .inl (le_of_eq (by simp [completeAnnounce, frameEnds]))
    | bank | unmute | join => exact .inl le_rfl
  · cases h with
    | bank b _ hp hi hm => exact .inl (linkState_congr hp hi hm)
    | mute => rw [enterMute_eq]; exact .inr (.inr hraised)
    | unmute | join => exact .inr (.inr hraised)
    | complete => exact .inl (linkState_congr (by simp [completeAnnounce, frameEnds]) (by simp [completeAnnounce, frameEnds])
        (by simp [completeAnnounce, frameEnds]))
  · cases h with
    | bank | mute | unmute => exact .inl rfl
    | complete => exact .inl (released_congr (by simp [completeAnnounce, frameEnds]))
    | join hphase =>
      have hrel : s.released = true := by
        by_contra h
        rw [(hsc.quiet (by simpa using h)).2.2.2.2.2.2.2] at hphase
        cases hphase
      exact .inl hrel.symm

theorem ShareAct.recounts (h : ShareAct c s t) (hre : Reaction c r s t) (hr : r ≠ some .eventRead) : Recounts n s t := by
  have hraised {k : EventKind} {u : State} : k ∈ (raiseEvent k u).lp.events := mem_raiseEvent.2 (.inl rfl)
  refine .of_frame hre hr (congrArg (·.rs) h.frame) (.inl (le_of_eq (congrArg (·.fl.count) h.frame))) ?_ ?_
    (.inl (released_congr (congrArg (·.cl) h.frame)))
  · cases h with
    | budget b _ _ _ _ _ _ hl => exact .inl hl
    | level => exact .inr hraised
    | entry | stale | remove | hear | isolate => exact .inl (by simp)
  · cases h with
    | hear | isolate => exact .inr (.inr hraised)
    | budget | level | entry | stale | remove => exact .inl (linkState_congr (by simp) (by simp) (by simp))

theorem LoadAct.recounts (h : LoadAct c r s t) (hre : Reaction c r s t) (hr : r ≠ some .eventRead)
    (hc : c ≠ .powerOnReset ∧ c ≠ .warmReset) (hsc : s.StartCoherent) : Recounts n s t := by
  cases h with
  | powerOn h => exact absurd h hc.1
  | warm h => exact absurd h hc.2
  | endReset src addr _ hheld =>
    have hrel : s.released = false := by simp [State.released, (hsc.reset hheld).1]
    refine .of_frame hre hr rfl (.inl le_rfl) (.inl rfl) (.inl rfl) (.inl ?_)
    rw [hrel]
    cases src <;> rfl
  | stage => exact .of_frame hre hr rfl (.inl le_rfl) (.inl rfl) (.inl rfl) (.inl rfl)
  | refuse h => exact .of_frame hre hr rfl (.inl le_rfl) (.inl rfl) (.inl rfl) (.inl h.symm)
  | release h =>
    have hbl : s.bl = Bank.reset := (hsc.quiet h).2.2.2.2.2.2.2
    refine .of_frame hre hr (release_rs s) (.inl (le_of_eq (by rw [release_fl]))) (.inl ?_) (.inr (.inl (by simp [State.linkState, hbl, Bank.reset]))) (.inr ?_)
    · rw [Machine.release, commit_bu_level, releaseBU]
      dsimp only
      split <;> rfl
    · refine mem_commit_events _ ?_
      unfold releaseBU
      dsimp only
      split <;> exact mem_raiseEvent.2 (.inl rfl)

theorem Act.recounts (h : Act c r s t) (hc : c ≠ .powerOnReset ∧ c ≠ .warmReset) (hr : r ≠ some .eventRead) (hsc : s.StartCoherent) :
    Recounts (r ≠ some .runResume) s t := by
  have hre := h.reaction hc fun _ => hsc
  cases h with
  | run h => exact h.recounts
  | fault h =>
    refine .of_frame hre hr (by rw [h.frame]) ?_ (.inl (by rw [h.frame])) (.inl (by rw [h.frame]; rfl)) (.inl (by rw [h.frame]; rfl))
    cases h with
    | take => exact .inr (mem_raiseEvent.2 (.inl rfl))
    | clear => exact .inl (Nat.zero_le _)
  | boat h =>
    have hf := h.frame
    exact .of_frame hre hr (congrArg (·.rs) hf) (.inl (le_of_eq (congrArg (·.fl.count) hf))) (.inl (congrArg (·.bu.level) hf))
      (.inl (linkState_congr (congrArg (·.bl.phase) hf) (congrArg (·.bl.isolated) hf) (congrArg (·.bl.mute) hf)))
      (.inl (released_congr (congrArg (·.cl) hf)))
  | gas h =>
    have hf := h.frame
    exact .of_frame hre hr (congrArg (·.rs) hf) (.inl (le_of_eq (congrArg (·.fl.count) hf))) (.inl (congrArg (·.bu.level) hf))
      (.inl (linkState_congr (congrArg (·.bl.phase) hf) (congrArg (·.bl.isolated) hf) (congrArg (·.bl.mute) hf)))
      (.inl (released_congr (congrArg (·.cl) hf)))
  | zone h =>
    have hf := h.frame
    exact .of_frame hre hr (congrArg (·.rs) hf) (.inl (le_of_eq (congrArg (·.fl.count) hf))) (.inl (congrArg (·.bu.level) hf))
      (.inl (linkState_congr (congrArg (·.bl.phase) hf) (congrArg (·.bl.isolated) hf) (congrArg (·.bl.mute) hf)))
      (.inl (released_congr (congrArg (·.cl) hf)))
  | bank h => exact h.recounts hre hr hsc
  | share h => exact h.recounts hre hr
  | port h =>
    exact .of_frame hre hr (by rw [h.frame]) (.inl (by rw [h.frame])) (.inl (by rw [h.frame])) (.inl (by rw [h.frame]; rfl))
      (.inl (by rw [h.frame]; rfl))
  | load h => exact h.recounts hre hr hc hsc
  | choose => exact .of_frame hre hr rfl (.inl le_rfl) (.inl rfl) (.inl rfl) (.inl rfl)

/-- A chain of actions recounts what it does, from a state in agreement. -/
theorem Acts.recounts (h : Acts c r s t) (hc : c ≠ .powerOnReset ∧ c ≠ .warmReset) (hr : r ≠ some .eventRead) (hsc : s.StartCoherent)
    (hd : c = .debounceTimerExpiry → s.released = true) : Recounts (r ≠ some .runResume) s t :=
  (h.keeps (P := fun u => (u.StartCoherent ∧ (c = .debounceTimerExpiry → u.released = true)) ∧ Recounts (r ≠ some .runResume) s u)
    (fun _ _ hact hu => ⟨⟨hact.startCoherent hu.1.1 hu.1.2, fun h => hact.released (by simp [h]) (hu.1.2 h)⟩,
      hu.2.trans (hact.recounts hc hr hu.1.1)⟩) ⟨⟨hsc, hd⟩, .refl s⟩).2

/-! ### Every command -/

/-- RUN-RESUME outside HELD changes nothing (R21). -/
theorem serveRunResume_of_ne_held (h : s.rs.run ≠ .held) : serveRunResume s = answer .state s := by
  unfold serveRunResume
  split
  · next hrun _ => exact absurd hrun h
  · next hrun _ => exact absurd hrun h
  · rfl

theorem serveOwner_recounts (hc : c ≠ .powerOnReset ∧ c ≠ .warmReset) (hd : c ≠ .debounceTimerExpiry) (q : Request) (body : List Byte)
    (hearly : s.released = true ∨ q.early = true) (hq : q ≠ .eventRead) (hsc : s.StartCoherent) :
    Recounts (s.rs.run ≠ .held) s (serveOwner q body s).state := by
  by_cases hres : q = .runResume ∧ s.rs.run ≠ .held
  · obtain ⟨rfl, hrun⟩ := hres
    rw [show serveOwner .runResume body s = serveRunResume s from rfl, serveRunResume_of_ne_held hrun]
    exact .refl s
  · have h := (serveOwner_acts (c := c) q body hearly).recounts hc (by simpa using hq) hsc fun h => absurd h hd
    exact ⟨h.1.mono fun hrun hq' => hres ⟨by simpa using hq', hrun⟩, h.2⟩

theorem takeWaitingOrder_recounts (s : State) : Recounts n s (takeWaitingOrder s) := by
  have hdrop : Recounts n s { s with rs.abortOrdered := false } := .of_silent_run (.of_silent rfl) rfl rfl (.inl rfl)
  rcases takeWaitingOrder_cases s with ⟨-, h⟩ | ⟨-, ⟨-, h⟩ | ⟨-, h⟩⟩ <;> rw [h]
  · exact .refl s
  · exact hdrop
  · rcases enterAborting_cases { s with rs.abortOrdered := false } with h | h <;> rw [h]
    · exact hdrop.trans (beginAbort_recounts _)
    · exact hdrop.trans ((beginAbort_recounts _).trans (enterIdle_recounts _))

/-- What a port command tells: its service first, then an order that has waited. -/
theorem exec_port_tells (hport : onPort c = true) (h : exec c s = .next t) (hsc : s.StartCoherent) :
    Tells (s.rs.run ≠ .held) s t ∧ ∀ k ∈ s.lp.events, k ∈ t.lp.events ∨
      (s.lp.reply = none ∨ c = .replyEnd) ∧ ∃ body, t.lp.reply = some ⟨0x04, .ok, body⟩ := by
  have hc : c ≠ .powerOnReset ∧ c ≠ .warmReset := ⟨fun h => (by subst h; cases hport), fun h => (by subst h; cases hport)⟩
  have hd : c ≠ .debounceTimerExpiry := fun h => by subst h; cases hport
  obtain ⟨u, hu, ht⟩ := exec_port_cases hport h
  have hserved : Tells (s.rs.run ≠ .held) s u ∧ ∀ k ∈ s.lp.events, k ∈ u.lp.events ∨
      (s.lp.reply = none ∨ c = .replyEnd) ∧ ∃ body, u.lp.reply = some ⟨0x04, .ok, body⟩ := by
    rcases hu with ⟨l, rfl, hl⟩ | ⟨hfree, l1, e, l2, ⟨hev1, hskip⟩, rfl, hev2, hr2⟩
    · exact ⟨.of_same rfl rfl rfl rfl rfl rfl, fun k hk => .inl (hl ▸ hk)⟩
    · have hsc1 : State.StartCoherent { s with lp := l1 } :=
        ⟨hsc.quiet, hsc.image, hsc.station, fun hh => ⟨(hsc.reset hh).1, hskip hh (hsc.reset hh).2⟩⟩
      rcases serveEntry_cases e { s with lp := l1 } with ⟨a, he, -⟩ | ⟨q, body, hearly, he⟩ <;> rw [he] at hev2 hr2 ⊢
      · exact ⟨.of_same rfl rfl rfl rfl rfl rfl, fun k hk => .inl (hev2 ▸ hev1 ▸ hk)⟩
      · by_cases hq : q = .eventRead
        · subst hq
          exact ⟨.of_same rfl rfl rfl rfl rfl rfl, fun k _ => .inr ⟨hfree, _, hr2⟩⟩
        · obtain ⟨hq, hev⟩ := serveOwner_recounts (s := { s with lp := l1 }) hc hd q body hearly hq hsc1
          generalize (serveOwner q body { s with lp := l1 }).state = v at hq hev hev2
          have hmem {k : EventKind} (h : k ∈ v.lp.events) : k ∈ l2.events := by rw [hev2]; exact h
          exact ⟨{
            held := fun h h' => hmem (hq.held h h')
            starved := fun hn h h' => hmem (hq.starved hn h h')
            idle := fun h h' => hmem (hq.idle h h')
            current := fun h h' => hmem (hq.current h h')
            fault := fun h => hmem (hq.fault h)
            gated := fun h h' => hmem (hq.gated h h')
            level := fun h => hmem (hq.level h)
            link := fun h h' => hmem (hq.link h h')
            ready := fun h h' => hmem (hq.ready h h') }, fun k hk => .inl (hmem (hev k (hev1 ▸ hk)))⟩
  obtain ⟨htells, hev⟩ := hserved
  rcases ht with rfl | ⟨-, -, rfl⟩
  · exact ⟨htells, hev⟩
  · have horder := takeWaitingOrder_recounts (n := s.rs.run ≠ .held) u
    have hreply : (takeWaitingOrder u).lp.reply = u.lp.reply := congrArg (·.lp.reply) (takeWaitingOrder_besideRun u)
    exact ⟨htells.trans horder.1 horder.2, fun k hk => hreply ▸ (hev k hk).imp (horder.2 k) id⟩

/-- Settles O22: every action tells what it changes; only EVENT-READ forgets. -/
theorem eventsTellChanges : Obligations.EventsTellChanges := by
  intro c s t hsc h hpor hwarm
  have hfinish {n : Prop} (htells : Tells n s t) (hn : s.rs.run ≠ .held → n) (hev : ∀ k ∈ s.lp.events, k ∈ t.lp.events ∨
      (s.lp.reply = none ∨ c = .replyEnd) ∧ ∃ body, t.lp.reply = some ⟨0x04, .ok, body⟩) : _ ∧ _ ∧ _ ∧ _ ∧ _ ∧ _ ∧ _ ∧ _ ∧ _ ∧ _ :=
    ⟨htells.held, fun h h' h'' => htells.starved (hn h'') h h', htells.idle, htells.current, htells.fault, htells.gated, htells.level,
      htells.link, htells.ready, hev⟩
  cases hport : onPort c with
  | true =>
    obtain ⟨htells, hev⟩ := exec_port_tells hport h hsc
    exact hfinish htells id hev
  | false =>
    by_cases hdeb : c = .debounceTimerExpiry ∧ s.released = false
    · obtain ⟨rfl, hrel⟩ := hdeb
      have hbu : s.bu = Budget.reset := (hsc.quiet hrel).2.2.2.2.2.2.1
      cases h
      rw [if_neg (by rw [hbu]; decide)] at *
      exact hfinish (n := True) (.of_same rfl rfl rfl rfl rfl rfl) (fun _ => trivial) fun _ => .inl
    · have htold := (exec_acts_of_not_onPort hport h).recounts ⟨hpor, hwarm⟩ nofun hsc fun h => by simpa [h] using hdeb
      exact hfinish htold.1 (fun _ => nofun) fun k hk => .inl (htold.2 k hk)

end

end Sys2Proof.Machine
end

section
/-!
PROOF. In RUNNING no step stays current whose conditions all hold (R14 to R16).
-/
namespace Sys2Proof.Machine

section
variable {c : Instr} {r : Option Request} {s t u : State}

/-! ### An evaluation leaves no completed step -/

theorem updateDwell_queue (s : State) : (updateDwell s).rs.queue = s.rs.queue := by
  obtain ⟨d, hd⟩ := updateDwell_cases s
  rw [hd]

theorem stepOpen_of_ne_running (h : s.rs.run ≠ .running) : s.StepOpen := fun hrun => absurd hrun h

theorem stepOpen_enterIdle (s : State) : (enterIdle s).StepOpen := stepOpen_of_ne_running (by simp)

theorem evaluateLoop_stepOpen (fuel : Nat) (s : State) (h : s.rs.queue.length < fuel) : (evaluateLoop fuel s).StepOpen := by
  induction fuel generalizing s with
  | zero => cases h
  | succ fuel ih =>
    simp only [evaluateLoop]
    have hq := updateDwell_queue s
    generalize updateDwell s = s1 at hq
    split
    · next x hrun hcur =>
      split
      · split
        · exact stepOpen_enterIdle _
        · split
          · exact stepOpen_of_ne_running nofun
          · next n rest hrest =>
            refine ih _ ?_
            have hlen : s.rs.queue.length = rest.length + 1 := by
              rw [← hq, show s1.rs.queue = n :: rest from hrest, List.length_cons]
            rw [startStep_rs]
            show rest.length < fuel
            omega
      · next hopen =>
        intro _ y hy
        rw [hcur] at hy
        cases hy
        simpa using hopen
    · next hno =>
      intro hrun y hy
      exact (hno y hrun hy).elim

/-- After an evaluation the current step has a condition that does not hold (R14, R16). -/
theorem stepOpen_evaluate (s : State) : (evaluate s).StepOpen := evaluateLoop_stepOpen _ s (Nat.lt_succ_self _)

/-! ### What completion turns on -/

theorem conditionsHold_congr (hd : t.rs.dwell.holds = s.rs.dwell.holds) (hz : t.thermalSettled = s.thermalSettled)
    (hb : t.boatArrived = s.boatArrived) (hp : t.purgeDone = s.purgeDone) (x : Conditions) :
    t.conditionsHold x = s.conditionsHold x := by
  simp only [State.conditionsHold, State.othersHold, hd, hz, hb, hp]

/-- A step that is current in RUNNING after a change was so before it, and what its completion turns on, the boat apart, is as it was. -/
def Lasts (s t : State) : Prop := t.rs.run = .running →
  (s.rs.run = .running ∧ t.rs.current = s.rs.current ∧ t.rs.dwell.holds = s.rs.dwell.holds) ∧
    t.thermalSettled = s.thermalSettled ∧ t.purgeDone = s.purgeDone

theorem Lasts.trans (h1 : Lasts s t) (h2 : Lasts t u) : Lasts s u := fun hu => by
  obtain ⟨⟨ht, hc2, hd2⟩, hz2, hp2⟩ := h2 hu
  obtain ⟨⟨hs, hc1, hd1⟩, hz1, hp1⟩ := h1 ht
  exact ⟨⟨hs, hc2.trans hc1, hd2.trans hd1⟩, hz2.trans hz1, hp2.trans hp1⟩

theorem Lasts.of_ne_running (h : t.rs.run ≠ .running) : Lasts s t := fun h' => absurd h' h

theorem Lasts.stepOpen (h : Lasts s t) (hs : s.StepOpen) (hb : t.rs.run = .running → t.boatArrived = s.boatArrived) : t.StepOpen := by
  intro hrun x hx
  obtain ⟨⟨hs', hcur, hd⟩, hz, hp⟩ := h hrun
  rw [conditionsHold_congr hd hz (hb hrun) hp]
  exact hs hs' x (hcur ▸ hx)

theorem purgeDone_congr (hacc : t.gc.acc = s.gc.acc) (hreq : t.gc.requirement = s.gc.requirement) (himage : t.image = s.image) :
    t.purgeDone = s.purgeDone := by
  simp only [State.purgeDone, State.purgeUnits, hacc, hreq, himage]
  cases s.gc.requirement <;> rfl

/-- Where RS, the settle timer, the accumulator and the image stay, a current step lasts. -/
theorem Lasts.of_same (hrs : t.rs = s.rs) (hsettle : t.zc.settle = s.zc.settle)
    (hacc : t.gc.acc = s.gc.acc) (hreq : t.gc.requirement = s.gc.requirement) (himage : t.image = s.image) :
    Lasts s t := fun h => by
  refine ⟨⟨hrs ▸ h, by rw [hrs], by rw [hrs]⟩, ?_, purgeDone_congr hacc hreq himage⟩
  simp only [State.thermalSettled, hsettle, himage]

theorem boatArrived_congr (hrs : t.rs = s.rs) (hm : t.bd.move = s.bd.move) : t.boatArrived = s.boatArrived := by
  simp only [State.boatArrived, State.motion, hrs, hm]
  split
  · rfl
  · split
    · rfl
    · have h (p q x y : Prop) [Decidable p] [Decidable q] [Decidable x] [Decidable y] :
          decide ((if p then Motion.gated else if q then .droopWait else .moving) = .rest) =
          decide ((if x then Motion.gated else if y then .droopWait else .moving) = .rest) := by
        by_cases hp : p <;> by_cases hq : q <;> by_cases hx : x <;> by_cases hy : y <;> simp [hp, hq, hx, hy]
      exact h _ _ _ _

/-! ### Every action outside the four commands that change a condition -/

/-- The commands that may change a condition, and evaluate completion where they do (R14, R56, R79, R88). -/
def changesCondition : Instr → Bool
  | .dwellExpiry | .zcPeriod | .gcPeriod | .bdEvaluation => true
  | _ => false

theorem RunAct.stepOpen (h : RunAct c r s t) (hc : c ≠ .dwellExpiry) (hs : s.StepOpen) : t.StepOpen := by
  have hkept (h : Lasts s t) (hb : t.boatArrived = s.boatArrived) : t.StepOpen := h.stepOpen hs fun _ => hb
  cases h with
  | hold | abort | abortAtOnce | endAbort | resumeStarved => exact stepOpen_of_ne_running (by simp)
  | evaluate => exact stepOpen_evaluate s
  | appendStart | start | resumeStart | resume => exact stepOpen_evaluate _
  | dwell n h => exact absurd h hc
  | endPurge => exact hkept (.of_same rfl rfl rfl rfl rfl) (boatArrived_congr rfl rfl)
  | order | dropOrder | tick | timeOut | append | clearQueue => exact hkept (fun h => ⟨⟨h, rfl, rfl⟩, rfl, rfl⟩) rfl

theorem stepOpen_of_frame (hs : s.StepOpen) (hrs : t.rs = s.rs) (hsettle : t.zc.settle = s.zc.settle) (hacc : t.gc.acc = s.gc.acc)
    (hreq : t.gc.requirement = s.gc.requirement) (himage : t.cl.image = s.cl.image) (hm : t.bd.move = s.bd.move) : t.StepOpen :=
  (Lasts.of_same hrs hsettle hacc hreq (by simp only [State.image, himage])).stepOpen hs fun _ => boatArrived_congr hrs hm

theorem BoatAct.stepOpen (h : BoatAct c r s t) (hc : c ≠ .bdEvaluation) (hs : s.StepOpen) : t.StepOpen := by
  have hf := h.frame
  have hkept (hm : t.bd.move = s.bd.move) : t.StepOpen :=
    stepOpen_of_frame hs (congrArg (·.rs) hf) (congrArg (·.zc.settle) hf) (congrArg (·.gc.acc) hf) (congrArg (·.gc.requirement) hf)
      (congrArg (·.cl.image) hf) hm
  cases h with
  | move raw _ _ hrun => exact stepOpen_of_ne_running (by simp [hrun])
  | stop _ h | arrive h | rebase _ _ h => exact absurd h hc
  | droop =>
    refine hkept ?_
    rw [show (commit s (evaluateDroop s)).bd.move = (evaluateDroop s).bd.move by simp]
    rcases evaluateDroop_cases s with h | ⟨_, _, _, h⟩ <;> rw [h]
  | count | closeGate | openGate | pulse => exact hkept (by simp [takeCount])
  | pins | reclear | marks | lastMark | phase => exact hkept rfl

theorem GasAct.stepOpen (h : GasAct c s t) (hc : c ≠ .gcPeriod) (hs : s.StepOpen) : t.StepOpen := by
  have hf := h.frame
  have hkept (hacc : t.gc.acc = s.gc.acc) (hreq : t.gc.requirement = s.gc.requirement) : t.StepOpen :=
    stepOpen_of_frame hs (congrArg (·.rs) hf) (congrArg (·.zc.settle) hf) hacc hreq (congrArg (·.cl.image) hf) (congrArg (·.bd.move) hf)
  cases h with
  | accumulate h | hand h => exact absurd h hc
  | sealPin | lines | phase | repeated | send => exact hkept (by simp) (by simp)

theorem ZoneAct.stepOpen (h : ZoneAct c s t) (hc : c ≠ .zcPeriod) (hs : s.StepOpen) : t.StepOpen := by
  cases h with
  | period h => exact absurd h hc
  | measure | window => exact stepOpen_of_frame hs rfl rfl rfl rfl rfl rfl

theorem Act.stepOpen (h : Act c r s t) (hc : changesCondition c = false)
    (hsc : (∃ x y, c = .resetEnd x y) ∨ bringsShares c = true ∨ r = some .configDone → s.StartCoherent)
    (hs : s.StepOpen) : t.StepOpen := by
  cases h with
  | run h => exact h.stepOpen (fun h => by subst h; cases hc) hs
  | fault h => exact stepOpen_of_frame hs (by rw [h.frame]) (by rw [h.frame]) (by rw [h.frame]) (by rw [h.frame]) (by rw [h.frame]) (by rw [h.frame])
  | boat h => exact h.stepOpen (fun h => by subst h; cases hc) hs
  | gas h => exact h.stepOpen (fun h => by subst h; cases hc) hs
  | zone h => exact h.stepOpen (fun h => by subst h; cases hc) hs
  | bank h =>
    have hf := h.frame
    exact stepOpen_of_frame hs (congrArg (·.rs) hf) (congrArg (·.zc.settle) hf) (congrArg (·.gc.acc) hf) (congrArg (·.gc.requirement) hf)
      (congrArg (·.cl.image) hf) (congrArg (·.bd.move) hf)
  | share h =>
    have hf := h.frame
    exact stepOpen_of_frame hs (congrArg (·.rs) hf) (congrArg (·.zc.settle) hf) (congrArg (·.gc.acc) hf) (congrArg (·.gc.requirement) hf)
      (congrArg (·.cl.image) hf) (congrArg (·.bd.move) hf)
  | port h => exact stepOpen_of_frame hs (by rw [h.frame]) (by rw [h.frame]) (by rw [h.frame]) (by rw [h.frame]) (by rw [h.frame]) (by rw [h.frame])
  | load h =>
    cases h with
    | powerOn | warm => exact stepOpen_of_ne_running nofun
    | release h _ hb => exact stepOpen_of_ne_running (by rw [release_rs, ((hsc (.inr hb)).quiet h).2.1]; decide)
    | endReset x y hc hheld =>
      have hsc := hsc (.inl ⟨x, y, hc⟩)
      have hrel : s.released = false := by simp [State.released, (hsc.reset hheld).1]
      exact stepOpen_of_ne_running (s := Machine.endReset x y s) (by rw [show (Machine.endReset x y s).rs = s.rs from rfl, (hsc.quiet hrel).2.1]; decide)
    | stage | refuse => exact stepOpen_of_frame hs rfl rfl rfl rfl rfl rfl
  | choose => exact stepOpen_of_frame hs rfl rfl rfl rfl rfl rfl

/-! ### The four commands, function by function -/

/-- A chain of actions that may give an order, but serves and releases nothing. -/
theorem Acts.stepOpen (h : Acts (.sampleRecord 0 0 0 0) none s t) (hs : s.StepOpen) : t.StepOpen :=
  h.keeps (fun _ _ hact => hact.stepOpen rfl fun h => by
    rcases h with ⟨_, _, h⟩ | h | h <;> cases h) hs

theorem beforeOrder_stepOpen {f : State → State} (h : (f s).StepOpen) : (beforeOrder f s).StepOpen := by
  unfold beforeOrder
  split
  · exact (takeWaitingOrder_acts (.inl (.sample 0 0 0 0))).stepOpen h
  · exact h

theorem dwellExpires_stepOpen (hs : s.StepOpen) : (dwellExpires s).StepOpen := by
  unfold dwellExpires
  split
  · exact stepOpen_evaluate _
  · exact hs

theorem zcPasses_stepOpen (hs : s.StepOpen) : (zcPasses s).StepOpen := by
  unfold zcPasses
  split
  · dsimp only
    split
    · next hz =>
      have hf := zcStages_frame s
      have hrs : (zcStages s).rs = s.rs := congrArg (·.rs) hf
      have himage : (zcStages s).image = s.image := by simp only [State.image, show (zcStages s).cl = s.cl from congrArg (·.cl) hf]
      have hp : (zcStages s).purgeDone = s.purgeDone :=
        purgeDone_congr (congrArg (·.gc.acc) hf) (congrArg (·.gc.requirement) hf) himage
      intro hrun x hx
      rw [conditionsHold_congr (by rw [hrs]) hz.symm (boatArrived_congr hrs (congrArg (·.bd.move) hf)) hp]
      exact hs (hrs ▸ hrun) x (hrs ▸ hx)
    · exact stepOpen_evaluate _
  · exact hs

theorem testLine_stepOpen (s0 : State) (l : GasLine) (hs : s.StepOpen) : (testLine s0 s l).StepOpen := by
  have hline (lc : LineControl) : (setLine l lc s).StepOpen := stepOpen_of_frame hs rfl rfl rfl rfl rfl rfl
  unfold testLine
  dsimp only
  split
  · have horder := (takeWaitingOrder_acts (r := none) (.inl (.sample 0 0 0 0))).stepOpen (hline
      { s.line l with devTimer := deviationTimer (s0.lineDeviates l) (s.line l).devTimer, deviates := s0.lineDeviates l, latch := true })
    exact (reportFault_acts (r := none) _ _ _ fun h => by cases h).stepOpen horder
  · exact hline _

theorem testLines_stepOpen (s0 : State) (ls : List GasLine) (hs : s.StepOpen) : (ls.foldl (testLine s0) s).StepOpen := by
  induction ls generalizing s with
  | nil => exact hs
  | cons l ls ih => exact ih (testLine_stepOpen s0 l hs)

theorem testAbortPurge_stepOpen (hs : s.StepOpen) : (testAbortPurge s).StepOpen := by
  unfold testAbortPurge
  split
  · split
    · exact stepOpen_enterIdle s
    · exact stepOpen_of_frame hs rfl rfl rfl rfl rfl rfl
  · exact hs

theorem purgeStages_stepOpen (hs : s.StepOpen) : (purgeStages s).StepOpen := by
  refine testAbortPurge_stepOpen ?_
  split
  · next hp =>
    intro hrun x hx
    rw [conditionsHold_congr (t := accumulatePurge s) (s := s) rfl rfl rfl hp.symm]
    exact hs hrun x hx
  · exact stepOpen_evaluate _

theorem gcPasses_stepOpen (hs : s.StepOpen) : (gcPasses s).StepOpen := by
  unfold gcPasses
  split
  · have hlines := testLines_stepOpen s GasLine.all (purgeStages_stepOpen hs)
    generalize GasLine.all.foldl (testLine s) (purgeStages s) = u at hlines
    exact stepOpen_of_frame hlines (commit_rs _ _) (by simp [handPurge]) (by simp [handPurge]) (by simp [handPurge])
      (by simp [handPurge]) (by simp [handPurge])
  · exact hs

/-! ### A BD evaluation: its stages leave a current step its conditions, the boat apart -/

theorem enterAborting_ne_running (s : State) : (enterAborting s).rs.run ≠ .running := by
  rcases enterAborting_cases s with h | h <;> rw [h] <;> simp

theorem takeAbortOrder_lasts (s : State) : Lasts s (takeAbortOrder s) := by
  unfold takeAbortOrder
  split
  · exact .of_ne_running (enterAborting_ne_running s)
  · exact (.of_same rfl rfl rfl rfl rfl)

theorem giveAbortOrder_lasts (b : Bool) (s : State) : Lasts s (giveAbortOrder b s) := by
  unfold giveAbortOrder
  split
  · dsimp only
    split
    · exact .trans (t := { s with free := s.free + 1 }) (.of_same rfl rfl rfl rfl rfl) (takeAbortOrder_lasts _)
    · exact fun h => ⟨⟨h, rfl, rfl⟩, rfl, rfl⟩
  · exact takeAbortOrder_lasts s

theorem takeWaitingOrder_lasts (s : State) : Lasts s (takeWaitingOrder s) := by
  unfold takeWaitingOrder
  split
  · exact .trans (t := { s with rs.abortOrdered := false }) (fun h => ⟨⟨h, rfl, rfl⟩, rfl, rfl⟩) (takeAbortOrder_lasts _)
  · exact (.of_same rfl rfl rfl rfl rfl)

theorem stopMove_lasts (s : State) : Lasts s (stopMove s) := by
  have hf := stopMove_frame s
  exact .of_same (congrArg (·.rs) hf) (congrArg (·.zc.settle) hf) (congrArg (·.gc.acc) hf) (congrArg (·.gc.requirement) hf)
    (by simp only [State.image, show (stopMove s).cl = s.cl from congrArg (·.cl) hf])

theorem commit_lasts (s u : State) : Lasts u (commit s u) :=
  .of_same (by simp) (by simp) (by simp) (by simp) (by simp [State.image])

theorem faultAndStop_lasts (k : FaultKind) (v : FaultValue) (hk : faultClass k .none = .abort) (s : State) :
    Lasts s (faultAndStop k v s) := by
  have hfault (b : Bool) (u : State) : Lasts u (reportFaultMeeting b k .none v u) := by
    unfold reportFaultMeeting
    dsimp only
    rw [hk]
    exact .trans (t := takeFault k .none v u) (.of_same rfl rfl rfl rfl rfl) (giveAbortOrder_lasts b _)
  exact (takeWaitingOrder_lasts s).trans ((hfault _ _).trans (stopMove_lasts _))

theorem markStage_lasts (s : State) : Lasts s (markStage s) := by
  unfold markStage
  split
  · exact (.of_same rfl rfl rfl rfl rfl)
  · next m rest _ =>
    unfold handleMark
    dsimp only
    split
    · exact .trans (.trans (t := { s with bd.marks := rest, bd.lastMark := some ⟨m.position, m.direction, (m.position : Int) - s.image.pRef, .slip⟩ })
        (.of_same rfl rfl rfl rfl rfl) (faultAndStop_lasts .boatSlip _ rfl _)) (commit_lasts _ _)
    · exact .trans (.of_same rfl rfl rfl rfl rfl) (commit_lasts _ _)

theorem evaluationStages_lasts (s : State) : Lasts s (evaluationStages s) := by
  have hstall (u : State) : Lasts u (stallStage u) := by
    unfold stallStage
    split
    · exact (faultAndStop_lasts .boatStall _ rfl u).trans (commit_lasts _ _)
    · exact (.of_same rfl rfl rfl rfl rfl)
  have hdroop (u : State) : Lasts u (droopStage u) := by
    refine .trans ?_ (commit_lasts _ _)
    rcases evaluateDroop_cases u with h | ⟨_, _, _, h⟩ <;> rw [h] <;> exact (.of_same rfl rfl rfl rfl rfl)
  have harrive (u : State) : Lasts u (arrivalStage u) := by
    unfold arrivalStage
    split
    · refine .trans ?_ (commit_lasts _ _)
      rcases testArrival_cases u with h | ⟨-, h⟩ <;> rw [h] <;> exact (.of_same rfl rfl rfl rfl rfl)
    · exact (.of_same rfl rfl rfl rfl rfl)
  exact (markStage_lasts s).trans ((hstall _).trans ((hdroop _).trans (harrive _)))

theorem bdEvaluates_stepOpen (hs : s.StepOpen) : (bdEvaluates s).StepOpen := by
  unfold bdEvaluates
  split
  · have hlasts : Lasts s (evaluationStages { s with bd.phase := .running Config.evaluationMs }) :=
      .trans (.of_same rfl rfl rfl rfl rfl) (evaluationStages_lasts _)
    dsimp only
    generalize evaluationStages { s with bd.phase := .running Config.evaluationMs } = u at hlasts
    have hopen : (if s.boatArrived = u.boatArrived then u else evaluate u).StepOpen := by
      split
      · next hb => exact hlasts.stepOpen hs fun _ => hb.symm
      · exact stepOpen_evaluate u
    split
    · exact hopen
    · exact (settleOrder_acts (r := none) (.sample 0 0 0 0)).stepOpen hopen
  · exact hs

/-- Every command keeps a condition open, from a state in agreement. -/
theorem exec_stepOpen (h : exec c s = .next t) (hsc : s.StartCoherent) (hs : s.StepOpen) : t.StepOpen := by
  cases hc : changesCondition c with
  | false => exact exec_keeps h hsc hs fun r u v hact hu => hact.stepOpen hc fun _ => hu
  | true =>
    cases c with
    | dwellExpiry => cases h; exact beforeOrder_stepOpen (dwellExpires_stepOpen hs)
    | zcPeriod => cases h; exact beforeOrder_stepOpen (zcPasses_stepOpen hs)
    | gcPeriod => cases h; exact beforeOrder_stepOpen (gcPasses_stepOpen hs)
    | bdEvaluation => cases h; exact beforeOrder_stepOpen (bdEvaluates_stepOpen hs)
    | _ => cases hc

/-- The clock changes no condition: it counts on the dwell time, and DWELL holds from the expiry on (R15). -/
theorem advance_stepOpen (hs : s.StepOpen) : (advance s).StepOpen := by
  have hholds : (advance s).rs.dwell.holds = s.rs.dwell.holds := by
    show (if s.dwellPending.isSome = true then _ else _ : Dwell).holds = _
    split <;> rfl
  exact Lasts.stepOpen (s := s) (fun h => ⟨⟨h, rfl, hholds⟩, rfl, rfl⟩) hs fun _ => rfl

end

/-- Settles O16: an evaluation leaves a condition open, and what changes a condition is followed by an evaluation. -/
theorem stepOpenKept : Obligations.StepOpenKept := fun s _ hsc hs h =>
  (step_keeps (P := fun u => u.StartCoherent ∧ u.StepOpen) h ⟨hsc, hs⟩
    (fun _ _ _ hu => ⟨⟨hu.1.quiet, hu.1.image, hu.1.station, hu.1.reset⟩, hu.2⟩)
    (fun hu => ⟨advance_startCoherent hu.1, advance_stepOpen hu.2⟩)
    fun _ _ hu h => ⟨exec_startCoherent h hu.1, exec_stepOpen h hu.1 hu.2⟩).2

end Sys2Proof.Machine
end

section
/-!
SUPPORT. How often a command moves what the shares are computed from (R114, R120): an action of the run that does takes the run further down
its order, and beside the run a command has one such change at most.
-/
namespace Sys2Proof.Machine

/-- The run states in the order in which a run that nobody starts or resumes goes through them. -/
def RunState.order : RunState → Nat
  | .running => 4
  | .starved => 3
  | .held => 2
  | .aborting => 1
  | .idle => 0

/-- The run has gone further down its order, or in its state has taken a record from its queue. -/
def Declines (s t : State) : Prop :=
  t.rs.run.order < s.rs.run.order ∨ t.rs.run = s.rs.run ∧ t.rs.queue.length < s.rs.queue.length

/-- The run state and the length of the queue are as they were. -/
def Stands (s t : State) : Prop := t.rs.run = s.rs.run ∧ t.rs.queue.length = s.rs.queue.length

/-- No input of the shares has changed and no held grant. -/
def Still (s t : State) : Prop := t.shareInputs = s.shareInputs ∧ ∀ p, t.heldGrant p = s.heldGrant p

/-- Each held grant is the smaller of what it was and what is computed now (R120). -/
def Moved (s t : State) : Prop := ∀ p, t.heldGrant p = min (s.heldGrant p) (t.computedGrant p)

/-- The run declines, or nothing that the shares turn on has changed. -/
def Steady (s t : State) : Prop := Declines s t ∨ Stands s t ∧ Still s t

/-- The run declines, or the held grants have followed their shares once at most. -/
def Once (s t : State) : Prop := Declines s t ∨ Stands s t ∧ (Still s t ∨ Moved s t)

section
variable {c : Instr} {r : Option Request} {s t u : State}

theorem Declines.trans (h1 : Declines s t) (h2 : Declines t u) : Declines s u := by
  rcases h1 with h1 | ⟨h1, h1'⟩ <;> rcases h2 with h2 | ⟨h2, h2'⟩
  · exact .inl (h2.trans h1)
  · exact .inl (h2 ▸ h1)
  · exact .inl (h1 ▸ h2)
  · exact .inr ⟨h2.trans h1, h2'.trans h1'⟩

theorem Declines.stands (h1 : Declines s t) (h2 : Stands t u) : Declines s u := by
  unfold Declines; rw [h2.1, h2.2]; exact h1

theorem Stands.declines (h1 : Stands s t) (h2 : Declines t u) : Declines s u := by
  unfold Declines; rw [← h1.1, ← h1.2]; exact h2

theorem Stands.trans (h1 : Stands s t) (h2 : Stands t u) : Stands s u := ⟨h2.1.trans h1.1, h2.2.trans h1.2⟩

theorem Stands.of_rs (h : t.rs = s.rs) : Stands s t := ⟨by rw [h], by rw [h]⟩

theorem Still.refl (s : State) : Still s s := ⟨rfl, fun _ => rfl⟩

theorem Still.trans (h1 : Still s t) (h2 : Still t u) : Still s u := ⟨h2.1.trans h1.1, fun p => (h2.2 p).trans (h1.2 p)⟩

/-- Where nothing is changed that the shares turn on. -/
theorem Still.of_same (hin : t.shareInputs = s.shareInputs)
    (hheld : t.bu.heldHeater = s.bu.heldHeater ∧ t.bu.heldPurge = s.bu.heldPurge) : Still s t :=
  ⟨hin, fun p => by cases p <;> [exact hheld.1; exact hheld.2]⟩

theorem Still.moved (h1 : Still s t) (h2 : Moved t u) : Moved s u := fun p => (h2 p).trans (by rw [h1.2 p])

theorem Moved.still (h1 : Moved s t) (h2 : Still t u) : Moved s u := fun p => by
  rw [h2.2 p, h1 p, computedGrant_congr h2.1 p]

theorem Steady.refl (s : State) : Steady s s := .inr ⟨.of_rs rfl, .refl s⟩

/-- What stands still in a run that neither declines nor moves its shares. -/
def State.standing (s : State) := (s.rs.run, s.rs.queue.length, s.shareInputs, s.bu.heldHeater, s.bu.heldPurge)

theorem Steady.of_same (h : t.standing = s.standing) : Steady s t := by
  simp only [State.standing, Prod.mk.injEq] at h
  obtain ⟨hrun, hqueue, hin, hheld⟩ := h
  exact .inr ⟨⟨hrun, hqueue⟩, .of_same hin hheld⟩

theorem Steady.trans (h1 : Steady s t) (h2 : Steady t u) : Steady s u := by
  rcases h1 with h1 | ⟨h1, h1'⟩ <;> rcases h2 with h2 | ⟨h2, h2'⟩
  · exact .inl (h1.trans h2)
  · exact .inl (h1.stands h2)
  · exact .inl (h1.declines h2)
  · exact .inr ⟨h1.trans h2, h1'.trans h2'⟩

theorem Steady.once (h : Steady s t) : Once s t := h.imp id fun ⟨h, h'⟩ => ⟨h, .inl h'⟩

theorem Steady.then_once (h1 : Steady s t) (h2 : Once t u) : Once s u := by
  rcases h1 with h1 | ⟨h1, h1'⟩ <;> rcases h2 with h2 | ⟨h2, h2'⟩
  · exact .inl (h1.trans h2)
  · exact .inl (h1.stands h2)
  · exact .inl (h1.declines h2)
  · exact .inr ⟨h1.trans h2, h2'.imp h1'.trans h1'.moved⟩

theorem Once.then_steady (h1 : Once s t) (h2 : Steady t u) : Once s u := by
  rcases h1 with h1 | ⟨h1, h1'⟩ <;> rcases h2 with h2 | ⟨h2, h2'⟩
  · exact .inl (h1.trans h2)
  · exact .inl (h1.stands h2)
  · exact .inl (h1.declines h2)
  · exact .inr ⟨h1.trans h2, h1'.imp (·.trans h2') (·.still h2')⟩

/-! ### Changes with their reactions -/

/-- A change whose inputs are those of the state it began from lowers nothing. -/
theorem Still.commit (h : Still s u) : Still s (commit s u) :=
  ⟨(commit_shareInputs s u).trans h.1, fun p => by rw [commit_heldGrant, if_pos h.1.symm, h.2 p]⟩

theorem Stands.commit (s0 : State) (h : Stands s u) : Stands s (commit s0 u) := h.trans (.of_rs (commit_rs s0 u))

theorem Declines.commit (s0 : State) (h : Declines s u) : Declines s (commit s0 u) := h.stands (.of_rs (commit_rs s0 u))

theorem Steady.commit (h : Steady s u) : Steady s (commit s u) :=
  h.imp (.commit s) fun ⟨h, h'⟩ => ⟨.commit s h, .commit h'⟩

/-- A change with its reactions that leaves RS moves the held grants once. -/
theorem Reacts.once (h : Reacts c r s t) (hc : c ≠ .transmitCompletion) (hrs : t.rs = s.rs) : Once s t :=
  .inr ⟨.of_rs hrs, (h.held hc).imp id And.left⟩

/-! ### The run -/

theorem updateDwell_steady (s : State) : Steady s (updateDwell s) := by
  obtain ⟨d, hd⟩ := updateDwell_cases s
  rw [hd]
  exact .of_same rfl

theorem evaluate_steady (s : State) : Steady s (evaluate s) :=
  evaluate_keeps (Steady s)
    (hdwell := fun _ _ h => h.trans (.of_same rfl))
    (hlast := fun _ _ hrun _ h => h.trans (.inl (.inl (by rw [hrun]; simp [RunState.order]))))
    (hstarve := fun _ _ hrun _ _ h => h.trans (.inl (.inl (by rw [hrun]; simp [RunState.order]))))
    (hnext := fun _ _ n rest hrun _ hq h => h.trans (.inl (.inr ⟨by simp [hrun], by simp [hq]⟩))) s (.refl s)

theorem enterHeld_steady (h : s.rs.run = .running ∨ s.rs.run = .starved) : Steady s (enterHeld s) :=
  .inl (.inl (by rcases h with h | h <;> rw [h] <;> simp [RunState.order]))

theorem RunState.order_of_abortable {x : RunState} (h : x.abortable = true) : 1 < x.order := by
  cases x with
  | running | starved | held => decide
  | aborting | idle => cases h

theorem enterAborting_steady (h : s.rs.run.abortable = true) : Steady s (enterAborting s) := by
  have horder := RunState.order_of_abortable h
  refine .inl (.inl ?_)
  rcases enterAborting_cases s with h | h <;> rw [h]
  · rw [beginAbort_run]; exact horder
  · rw [enterIdle_rs]; exact Nat.lt_trans Nat.zero_lt_one horder

theorem RunAct.steady (h : RunAct c r s t) (hr : r ≠ some .stepAppend ∧ r ≠ some .runStart ∧ r ≠ some .runResume) : Steady s t := by
  cases h with
  | hold h => exact enterHeld_steady h
  | endAbort h => exact .inl (.inl (by rw [h]; simp [RunState.order]))
  | abort b h =>
    have := RunState.order_of_abortable h.1
    exact .inl (.inl (by rw [beginAbort_run]; exact this))
  | abortAtOnce b h =>
    have := RunState.order_of_abortable h.1
    exact .inl (.inl (by rw [enterIdle_rs]; exact Nat.lt_trans Nat.zero_lt_one this))
  | evaluate => exact evaluate_steady s
  | append _ h | appendStart _ _ _ h => exact absurd h hr.1
  | start _ _ h => exact absurd h hr.2.1
  | resumeStarved h | resumeStart _ _ h | resume h => exact absurd h hr.2.2
  | clearQueue =>
    by_cases hq : s.rs.queue.length = 0
    · exact .inr ⟨⟨rfl, hq.symm⟩, .of_same rfl ⟨rfl, rfl⟩⟩
    · exact .inl (.inr ⟨rfl, Nat.pos_of_ne_zero hq⟩)
  | endPurge => exact .of_same rfl
  | order | dropOrder | tick | timeOut | dwell => exact .of_same rfl

/-! ### Faults and orders -/

theorem takeAbortOrder_steady (s : State) : Steady s (takeAbortOrder s) := by
  unfold takeAbortOrder
  split
  · next h => exact enterAborting_steady h
  · exact .refl s

theorem giveAbortOrder_steady (b : Bool) (s : State) : Steady s (giveAbortOrder b s) := by
  unfold giveAbortOrder
  split
  · dsimp only
    split
    · exact .trans (t := { s with free := s.free + 1 }) (.of_same rfl) (takeAbortOrder_steady _)
    · exact .of_same rfl
  · exact takeAbortOrder_steady s

theorem takeWaitingOrder_steady (s : State) : Steady s (takeWaitingOrder s) := by
  unfold takeWaitingOrder
  split
  · exact .trans (t := { s with rs.abortOrdered := false }) (.of_same rfl) (takeAbortOrder_steady _)
  · exact .refl s

theorem beforeOrder_once {f : State → State} (h : Once s (f s)) : Once s (beforeOrder f s) := by
  unfold beforeOrder
  split
  · exact h.then_steady (takeWaitingOrder_steady _)
  · exact h

theorem reportFaultMeeting_steady (b : Bool) (k : FaultKind) (sub : FaultSubject) (v : FaultValue) (s : State) :
    Steady s (reportFaultMeeting b k sub v s) := by
  have htake : Steady s (takeFault k sub v s) := .of_same rfl
  unfold reportFaultMeeting
  dsimp only
  split
  · next hrun => exact htake.trans (enterHeld_steady (.inl hrun))
  · next hrun => exact htake.trans (enterHeld_steady (.inr hrun))
  · exact htake.trans (giveAbortOrder_steady b _)
  · exact htake

theorem reportFault_steady (k : FaultKind) (sub : FaultSubject) (v : FaultValue) (s : State) : Steady s (reportFault k sub v s) :=
  reportFaultMeeting_steady _ k sub v s

theorem settleOrder_steady (s : State) : Steady s (settleOrder s) := by
  unfold settleOrder
  split
  · exact .trans (t := { s with rs.abortOrdered := false }) (.of_same rfl) (giveAbortOrder_steady _ _)
  · exact .refl s

/-! ### Actions beside the run -/

/-- The commands that may change what the shares are computed from beside the run (R114). -/
def movesShares : Instr → Bool
  | .encoderCount _ | .bdEvaluation | .zcPeriod | .gcPeriod | .entryStale _ | .entryRemoved _ | .transmitCompletion
  | .listenTimerExpiry | .powerOnReset | .warmReset | .resetEnd _ _ => true
  | c => bringsShares c

theorem bringsShares_of_movesShares (h : movesShares c = false) : bringsShares c = false := by
  cases hb : bringsShares c
  · rfl
  · cases c with
    | announceReceived | curtailReceived | curtailAckReceived | otherKindFrame | silenceTimerExpiry | debounceTimerExpiry
    | serialMemoryReadEnd => cases h
    | _ => cases hb

/-- The loader's own records move no share before the release (R112, R187). -/
theorem Still.loader {l : Loader} (hrel : s.released = false) (hrel' : State.released { s with cl := l } = false)
    (himage : l.image = s.cl.image) : Still s { s with cl := l } := by
  have himg : State.image { s with cl := l } = s.image := by simp [State.image, himage]
  have hrank : State.rank { s with cl := l } = s.rank := by simp [State.rank, hrel, hrel']
  refine .of_same ?_ ⟨rfl, rfl⟩
  simp only [State.shareInputs, State.beff, hrank, himg]
  rfl

theorem BoatAct.steady (h : BoatAct c r s t) (hc : ∀ l, c ≠ .encoderCount l) (hc' : c ≠ .bdEvaluation) : Steady s t := by
  have hcommit {u : State} (hrs : u.rs = s.rs) (hin : u.shareInputs = s.shareInputs) (hbu : u.bu = s.bu) : Steady s (commit s u) :=
    .commit (.inr ⟨.of_rs hrs, .of_same hin (by simp [hbu])⟩)
  cases h with
  | move raw =>
    have heq := takeTarget_eq (storeBoat s.image raw) s
    have hbu : (takeTarget (storeBoat s.image raw) s).bu = s.bu := congrArg (·.bu) heq
    exact hcommit (takeTarget_rs _ s) (shareInputs_congr (congrArg (·.cl) heq) (by rw [takeTarget_rs]) (takeTarget_boat _ s).1
      (by rw [hbu]) (by rw [hbu]) (by rw [hbu]) (by rw [hbu]) (congrArg (·.bl.isolated) heq)) hbu
  | count l h => exact absurd h (hc l)
  | rebase _ _ h | stop _ h | arrive h => exact absurd h hc'
  | droop =>
    rcases evaluateDroop_cases s with h | ⟨_, _, _, h⟩ <;> rw [h]
    · exact hcommit rfl rfl rfl
    · exact hcommit rfl rfl rfl
  | closeGate | openGate | pulse => exact hcommit rfl rfl rfl
  | pins | reclear | marks | lastMark | phase => exact .of_same rfl

theorem GasAct.steady (h : GasAct c s t) (hc : c ≠ .gcPeriod) : Steady s t := by
  cases h with
  | hand h => exact absurd h hc
  | sealPin => exact .commit (.of_same rfl)
  | lines | accumulate | phase | repeated | send => exact .of_same rfl

theorem ZoneAct.steady (h : ZoneAct c s t) (hc : c ≠ .zcPeriod) : Steady s t := by
  cases h with
  | period h => exact absurd h hc
  | measure | window => exact .of_same rfl

theorem BankAct.steady (h : BankAct c s t) (hc : c ≠ .transmitCompletion ∧ c ≠ .listenTimerExpiry) : Steady s t := by
  cases h with
  | bank b _ _ hi => exact .inr ⟨.of_rs rfl, .of_same (shareInputs_congr rfl rfl rfl rfl rfl rfl rfl hi) ⟨rfl, rfl⟩⟩
  | mute => rw [enterMute_eq]; exact .of_same rfl
  | unmute => exact .of_same rfl
  | join _ h => exact absurd h hc.2
  | complete _ _ h => exact absurd h hc.1

theorem ShareAct.steady (h : ShareAct c s t) (hc : bringsShares c = false) (hc' : ∀ n, c ≠ .entryStale n ∧ c ≠ .entryRemoved n) :
    Steady s t := by
  cases h with
  | budget b _ hv hh hp hh' hp' hl => exact .inr ⟨.of_rs rfl, .of_same (shareInputs_congr rfl rfl rfl hh hp hv hl rfl) ⟨hh', hp'⟩⟩
  | level _ _ _ h | entry _ _ _ _ _ _ h | hear _ h | isolate _ _ _ h => rw [hc] at h; cases h
  | stale n h => exact absurd h (hc' n).1
  | remove n h => exact absurd h (hc' n).2

/-- An action of a command that does not move the shares, in no service that starts a step or releases the part. -/
theorem Act.steady (h : Act c r s t) (hc : movesShares c = false)
    (hr : (r ≠ some .stepAppend ∧ r ≠ some .runStart ∧ r ≠ some .runResume) ∧ r ≠ some .configDone) : Steady s t := by
  cases h with
  | run h => exact h.steady hr.1
  | fault h =>
    have hf := h.frame
    rw [hf]
    exact .of_same rfl
  | boat h => exact h.steady (fun l h => by subst h; cases hc) (fun h => by subst h; cases hc)
  | gas h => exact h.steady fun h => by subst h; cases hc
  | zone h => exact h.steady fun h => by subst h; cases hc
  | bank h => exact h.steady ⟨fun h => (by subst h; cases hc), fun h => (by subst h; cases hc)⟩
  | share h =>
    exact h.steady (bringsShares_of_movesShares hc) fun n => ⟨fun h => (by subst h; cases hc), fun h => (by subst h; cases hc)⟩
  | port h => rw [h.frame]; exact .of_same rfl
  | load h =>
    cases h with
    | powerOn h | warm h | endReset _ _ h => subst h; cases hc
    | release _ _ h =>
      rcases h with h | h
      · rw [bringsShares_of_movesShares hc] at h; cases h
      · exact absurd h hr.2
    | stage bytes h => exact .inr ⟨.of_rs rfl, .loader h h rfl⟩
    | refuse h => exact .inr ⟨.of_rs rfl, .loader h rfl rfl⟩
  | choose => exact .of_same rfl

end

end Sys2Proof.Machine
end

section
/-!
PROOF. The held grants follow their shares (R119 to R121).
-/
namespace Sys2Proof.Machine

section
variable {c : Instr} {r : Option Request} {s t u : State}

/-! ### The commands that move the shares beside the run -/

theorem Acts.steady (h : Acts c r s t) (hc : movesShares c = false)
    (hr : (r ≠ some .stepAppend ∧ r ≠ some .runStart ∧ r ≠ some .runResume) ∧ r ≠ some .configDone) : Steady s t :=
  h.keeps (P := Steady s) (fun _ _ hact hu => hu.trans (hact.steady hc hr)) (.refl s)

theorem faultAndStop_steady (k : FaultKind) (v : FaultValue) (s : State) : Steady s (faultAndStop k v s) := by
  have hstop (u : State) : Steady u (stopMove u) := by
    unfold stopMove
    split
    · exact .of_same rfl
    · exact .refl u
  exact (takeWaitingOrder_steady s).trans ((reportFaultMeeting_steady _ _ _ _ _).trans (hstop _))

theorem markStage_once (s : State) : Once s (markStage s) := by
  unfold markStage
  split
  · exact (Steady.refl s).once
  · next m rest _ =>
    have hmarks : Steady s { s with bd.marks := rest } := .of_same rfl
    refine hmarks.then_once ?_
    generalize ({ s with bd.marks := rest } : State) = u
    unfold handleMark
    dsimp only
    split
    · have hlast : Steady u { u with bd.lastMark := some ⟨m.position, m.direction, (m.position : Int) - u.image.pRef, .slip⟩ } := .of_same rfl
      exact (hlast.trans (faultAndStop_steady .boatSlip _ _)).commit.once
    · exact Reacts.once (c := .bdEvaluation) (r := none) (.of_commit rfl) nofun (commit_rs _ _)

theorem evaluationStages_once (s : State) : Once s (evaluationStages s) := by
  have hstall (u : State) : Steady u (stallStage u) := by
    unfold stallStage
    split
    · exact (faultAndStop_steady .boatStall _ u).commit
    · exact .refl u
  have hdroop (u : State) : Steady u (droopStage u) := by
    refine .commit ?_
    rcases evaluateDroop_cases u with h | ⟨_, _, _, h⟩ <;> rw [h] <;> exact .of_same rfl
  have harrive (u : State) : Steady u (arrivalStage u) := by
    unfold arrivalStage
    split
    · refine .commit ?_
      rcases testArrival_cases u with h | ⟨-, h⟩ <;> rw [h] <;> exact .of_same rfl
    · exact .refl u
  exact (markStage_once s).then_steady ((hstall _).trans ((hdroop _).trans (harrive _)))

theorem bdEvaluates_once (s : State) : Once s (bdEvaluates s) := by
  unfold bdEvaluates
  split
  · have hphase : Steady s { s with bd.phase := .running Config.evaluationMs } := .of_same rfl
    have hstages := hphase.then_once (evaluationStages_once _)
    dsimp only
    generalize evaluationStages { s with bd.phase := .running Config.evaluationMs } = u at hstages
    have heval : Once s (if s.boatArrived = u.boatArrived then u else evaluate u) := by
      split
      · exact hstages
      · exact hstages.then_steady (evaluate_steady u)
    split
    · exact heval
    · exact heval.then_steady (settleOrder_steady _)
  · exact (Steady.refl s).once

theorem zcPasses_once (s : State) : Once s (zcPasses s) := by
  have hramp (u : State) : Steady u (rampAndDrive u) := by
    unfold rampAndDrive
    dsimp only
    split <;> exact .of_same rfl
  have hdemand (u : State) : Once u (demandStage u) :=
    (demandStage_reacts (r := none) rfl u).once nofun (demandStage_rs u)
  have hsettle (u : State) : Steady u (settleStage u) := .of_same rfl
  have hphase : Steady s { s with zc.phase := .running Config.periodMs } := .of_same rfl
  have hstages : Once s (zcStages s) := (hphase.trans (hramp _)).then_once ((hdemand _).then_steady (hsettle _))
  unfold zcPasses
  split
  · dsimp only
    split
    · exact hstages
    · exact hstages.then_steady (evaluate_steady _)
  · exact (Steady.refl s).once

theorem testLine_steady (s0 s : State) (l : GasLine) : Steady s (testLine s0 s l) := by
  have hline (lc : LineControl) : Steady s (setLine l lc s) := .of_same rfl
  unfold testLine
  dsimp only
  split
  · exact (hline _).trans ((takeWaitingOrder_steady _).trans (reportFault_steady _ _ _ _))
  · exact hline _

theorem testLines_steady (s0 : State) (ls : List GasLine) (s : State) : Steady s (ls.foldl (testLine s0) s) := by
  induction ls generalizing s with
  | nil => exact .refl s
  | cons l ls ih => exact (testLine_steady s0 s l).trans (ih _)

theorem purgeStages_steady (s : State) : Steady s (purgeStages s) := by
  have hacc : Steady s (accumulatePurge s) := .of_same rfl
  have htest (u : State) : Steady u (testAbortPurge u) := by
    unfold testAbortPurge
    split
    · split
      · next h => exact .inl (.inl (by rw [h]; simp [RunState.order]))
      · exact .of_same rfl
    · exact .refl u
  refine .trans ?_ (htest _)
  split
  · exact hacc
  · exact hacc.trans (evaluate_steady _)

theorem gcPasses_once (s : State) : Once s (gcPasses s) := by
  unfold gcPasses
  split
  · have hlines := (purgeStages_steady s).trans (testLines_steady s GasLine.all _)
    dsimp only
    generalize GasLine.all.foldl (testLine s) (purgeStages s) = u at hlines
    have hhand : Once u (handPurge u) := Reacts.once (c := .gcPeriod) (r := none) (.of_commit rfl) nofun (commit_rs _ _)
    exact (hlines.then_once hhand).then_steady (.of_same rfl)
  · exact (Steady.refl s).once

theorem validateStaging_once (h : s.released = false) : Once s (validateStaging s) := by
  unfold validateStaging
  split
  · exact (release_reacts (c := .gcPeriod) (r := none) s).once nofun (release_rs s)
  · have hrefuse : Steady s { s with cl.startup := .notConfigured } := .inr ⟨.of_rs rfl, .loader h rfl rfl⟩
    exact (hrefuse.trans (reportFault_steady _ _ _ _)).once

theorem Once.raised (k : EventKind) (h : Once s u) : Once s (raiseEvent k u) := h.then_steady (.of_same rfl)

theorem setLevel_once (l : Level) (s : State) : Once s (setLevel l s) := by
  unfold setLevel
  split
  · exact (Steady.refl s).once
  · exact .raised .curtail (Reacts.once (c := .gcPeriod) (r := none) (.of_commit rfl) nofun (commit_rs _ _))

theorem adoptLocal_once (s : State) : Once s (adoptLocal s) := by
  have h := setLevel_once s.bu.debounced s
  unfold adoptLocal
  dsimp only
  generalize setLevel s.bu.debounced s = u at h
  exact h.then_steady (.of_same rfl)

/-! ### Frames -/

theorem setLevel_shareInputs (l : Level) (s : State) : (setLevel l s).shareInputs = State.shareInputs { s with bu.level := l } := by
  unfold setLevel
  split
  · next h => subst h; rfl
  · exact commit_shareInputs s _

theorem setLevel_steady {l : Level} (h : (setLevel l s).shareInputs = s.shareInputs) : Steady s (setLevel l s) := by
  rw [setLevel_shareInputs] at h
  unfold setLevel
  split
  · exact .refl s
  · have hcommit : Steady s (commit s { s with bu.level := l }) := .commit (.inr ⟨.of_rs rfl, .of_same h ⟨rfl, rfl⟩⟩)
    exact hcommit.trans (.of_same rfl)

theorem commit_level_shareInputs (s0 s : State) (l : Level) :
    State.shareInputs { commit s0 s with bu.level := l } = State.shareInputs { s with bu.level := l } :=
  shareInputs_congr (by simp) (by simp) (by simp) (by simp) (by simp) (by simp) rfl (by simp)

/-- A view whose level, changed beside it, brings the inputs back to what they were has changed none of them itself. -/
theorem view_shareInputs {v : List ViewEntry} {l : Level} (h : State.shareInputs { s with bu.view := v, bu.level := l } = s.shareInputs) :
    State.shareInputs { s with bu.view := v } = s.shareInputs := by
  simp only [State.shareInputs, ShareInputs.mk.injEq] at h ⊢
  obtain ⟨h1, h2, h3, -, -, h6, h7, h8, h9, h10⟩ := h
  exact ⟨h1, h2, h3, rfl, rfl, h6, h7, h8, h9, h10⟩

/-- A view and then a level that leave the inputs as they were have each left them so. -/
theorem takeTwo_steady {v : List ViewEntry} {l : Level} (h : (setLevel l (commit s { s with bu.view := v })).shareInputs = s.shareInputs) :
    Steady s (setLevel l (commit s { s with bu.view := v })) := by
  have hboth := h
  rw [setLevel_shareInputs, commit_level_shareInputs] at hboth
  have hview := view_shareInputs (s := s) (v := v) (l := l) hboth
  have hfirst : Steady s (commit s { s with bu.view := v }) := .commit (.inr ⟨.of_rs rfl, .of_same hview ⟨rfl, rfl⟩⟩)
  exact hfirst.trans (setLevel_steady (h.trans (by rw [commit_shareInputs, hview])))

/-- An entry that a frame brings, with the level that it may bring in JOINING: the inputs change twice only where both do (R108, R154). -/
theorem takeEntry_once (e : ViewEntry) (s : State) (h : (takeEntry e s).shareInputs = s.shareInputs ∨
    (s.bl.phase = .joining → (takeEntry e s).bu.level = s.bu.level)) : Once s (takeEntry e s) := by
  have hentry : Once s (commit s { s with bu.view := insertEntry e s.bu.view }) :=
    Reacts.once (c := .gcPeriod) (r := none) (.of_commit rfl) nofun (commit_rs _ _)
  have hphase : (commit s { s with bu.view := insertEntry e s.bu.view }).bl.phase = s.bl.phase := by simp
  have hlevel : (commit s { s with bu.view := insertEntry e s.bu.view }).bu.level = s.bu.level := by simp
  unfold takeEntry at h ⊢
  dsimp only at h ⊢
  split
  · next hadopts =>
    rw [if_pos hadopts] at h
    rw [State.adoptsAnnounced, Bool.and_eq_true, Bool.and_eq_true, decide_eq_true_eq] at hadopts
    rcases h with hin | hl
    · exact (takeTwo_steady hin).once
    · refine hentry.then_steady ?_
      have hl := hl (hphase.symm.trans hadopts.1.1)
      generalize commit s { s with bu.view := insertEntry e s.bu.view } = v at hl hlevel ⊢
      unfold setLevel at hl ⊢
      split
      · exact .refl v
      · next hne =>
        rw [if_neg hne] at hl
        exact absurd (by simpa using hl.trans hlevel.symm) hne
  · exact hentry

theorem takeAnnounce_once (station : Nat) (b : AnnounceBody) (s : State) (h : (takeAnnounce station b s).shareInputs = s.shareInputs ∨
    (s.bl.phase = .joining → (takeAnnounce station b s).bu.level = s.bu.level)) : Once s (takeAnnounce station b s) := by
  unfold takeAnnounce at h ⊢
  split
  · next e he =>
    simp only [he] at h
    exact takeEntry_once e s h
  · exact Steady.once (.of_same rfl)

theorem takeCurtail_once (station : Nat) (level : Byte) (s : State) : Once s (takeCurtail station level s) := by
  unfold takeCurtail
  split
  · exact Steady.once (.of_same rfl)
  · next l _ =>
    have h := setLevel_once l s
    dsimp only
    generalize setLevel l s = u at h
    exact h.then_steady (.of_same rfl)

theorem takeAck_steady (station : Nat) (level origin : Byte) (s : State) : Steady s (takeAck station level origin s) := by
  unfold takeAck
  split
  · split
    · split
      · exact .of_same rfl
      · exact .refl s
    · exact .refl s
  · exact .of_same rfl

/-- A peer frame's effect, where the link was not ISOLATED or stays so (R117, R140). -/
theorem withPeerFrame_once {effect : State → State} (hkeep : ∀ u, (effect u).bl.isolated = u.bl.isolated)
    (hiso : s.bl.isolated = true → (withPeerFrame effect s).bl.isolated = true)
    (heff : ∀ u, Still s u → u.bl.phase = s.bl.phase → u.bu.level = s.bu.level → effect u = withPeerFrame effect s → Once u (effect u)) :
    Once s (withPeerFrame effect s) := by
  have hheard (u : State) : (peerHeard u).bl.isolated = false := by
    unfold peerHeard
    dsimp only
    split
    · simp
    · next h => simpa using h
  cases hs : s.bl.isolated with
  | true =>
    have hfalse : (withPeerFrame effect s).bl.isolated = false := by
      unfold withPeerFrame
      rw [if_pos hs]
      dsimp only
      split
      · rw [hkeep, hheard]
      · exact hheard _
    rw [hiso hs] at hfalse
    cases hfalse
  | false =>
    have hsilence : Steady s (peerHeard s) ∧ Still s (peerHeard s) ∧ (peerHeard s).bl.phase = s.bl.phase ∧
        (peerHeard s).bu.level = s.bu.level := by
      unfold peerHeard
      dsimp only
      rw [if_neg (by simp [hs])]
      exact ⟨.of_same rfl, .of_same rfl ⟨rfl, rfl⟩, rfl, rfl⟩
    have heq : withPeerFrame effect s = effect (peerHeard s) := by
      unfold withPeerFrame
      rw [if_neg (by simp [hs])]
    obtain ⟨hst, hstill, hphase, hlevel⟩ := hsilence
    have honce := heff _ hstill hphase hlevel heq.symm
    rw [heq]
    exact hst.then_once honce

theorem meetFrame_once {effect : State → State} (h : effect (frameEnds s) = meetFrame effect s → Once (frameEnds s) (effect (frameEnds s))) :
    Once s (meetFrame effect s) := by
  unfold meetFrame at h ⊢
  split
  · next hr =>
    rw [if_pos hr] at h
    have hends : Steady s (frameEnds s) := .of_same rfl
    exact hends.then_once (h rfl)
  · exact Steady.once (.of_same rfl)

theorem receiveFrame_once {station : StationCode} {effect : State → State} (hkeep : ∀ u, (effect u).bl.isolated = u.bl.isolated)
    (hiso : s.bl.isolated = true → (receiveFrame station effect s).bl.isolated = true)
    (heff : ∀ u, Still s u → u.bl.phase = s.bl.phase → u.bu.level = s.bu.level → effect u = receiveFrame station effect s →
      Once u (effect u)) : Once s (receiveFrame station effect s) := by
  refine meetFrame_once fun heq => ?_
  split
  · exact (reportFault_steady _ _ _ _).once
  · next hst =>
    rw [if_neg hst] at heq
    have hrec : withPeerFrame effect (frameEnds s) = receiveFrame station effect s := heq
    exact withPeerFrame_once hkeep (fun h => by rw [hrec]; exact hiso h) fun u hu hp hl he =>
      heff u (.trans (t := frameEnds s) (.of_same rfl ⟨rfl, rfl⟩) hu) hp hl (he.trans hrec)

end

end Sys2Proof.Machine
end

section
/-!
PROOF. The held grants follow their shares, command by command (R119 to R121).
-/
namespace Sys2Proof.Machine

section
variable {c : Instr} {r : Option Request} {s t u : State}

/-! ### Requests that start, resume or feed the run -/

/-- The run state, the queue or the count of steps done tells that the run is not where it was. -/
def Differs (s t : State) : Prop :=
  t.rs.run ≠ s.rs.run ∨ t.rs.queue ≠ s.rs.queue ∨ (s.rs.done < Config.count16 → t.rs.done ≠ s.rs.done)

/-- What a request that starts or resumes a step or feeds the queue leaves for all to see, also after an abort. -/
inductive Begun (s u : State) : Prop
  | starved (h : s.rs.run = .starved) (hdone : u.rs.run = .starved → s.rs.done < Config.count16 → s.rs.done < u.rs.done)
  | shorter (h : u.rs.queue.length < s.rs.queue.length)
  | resumed (h : s.rs.run = .held) (hrun : u.rs.run ≠ .held)
  | longer (h : s.rs.queue.length < u.rs.queue.length) (hrun : u.rs.run = s.rs.run)

theorem Begun.differs (h : Begun s u) : Differs s u := by
  cases h with
  | starved h hdone =>
    by_cases hu : u.rs.run = .starved
    · exact .inr (.inr fun hs => (hdone hu hs).ne')
    · exact .inl (by rw [h]; exact hu)
  | shorter h => exact .inr (.inl fun heq => by rw [heq] at h; exact lt_irrefl _ h)
  | resumed h hrun => exact .inl (by rw [h]; exact hrun)
  | longer h => exact .inr (.inl fun heq => by rw [heq] at h; exact lt_irrefl _ h)

theorem Begun.order (h : Begun s u) : Differs s (takeWaitingOrder u) := by
  have haborted (hab : u.rs.run.abortable = true) {v : State} (hrun : v.rs.run = .aborting ∨ v.rs.run = .idle)
      (hq : v.rs.queue = []) : Differs s v := by
    cases h with
    | starved h => exact .inl (by rw [h]; rcases hrun with h | h <;> rw [h] <;> nofun)
    | shorter h => exact .inr (.inl fun heq => by rw [← heq, hq] at h; cases h)
    | resumed h => exact .inl (by rw [h]; rcases hrun with h | h <;> rw [h] <;> nofun)
    | longer _ h => exact .inl fun heq => by rw [h, ← heq] at hab; rcases hrun with h | h <;> rw [h] at hab <;> cases hab
  rcases takeWaitingOrder_cases u with ⟨-, h'⟩ | ⟨-, ⟨-, h'⟩ | ⟨hab, h'⟩⟩ <;> rw [h']
  · exact h.differs
  · have hsame : Begun s { u with rs.abortOrdered := false } := by
      cases h with
      | starved h hdone => exact .starved h hdone
      | shorter h => exact .shorter h
      | resumed h hrun => exact .resumed h hrun
      | longer h hrun => exact .longer h hrun
    exact hsame.differs
  · rcases enterAborting_cases { u with rs.abortOrdered := false } with h'' | h'' <;> rw [h'']
    · exact haborted hab (.inl (by simp)) (by simp)
    · exact haborted hab (.inr (by simp)) (by simp)

/-- A step start whose step completes at once counts it, unless the count is at its top (R16, R25). -/
theorem stepStart_done (n : StepRecord) (s : State) :
    (stepStart n s).rs.run ≠ .running → s.rs.done < Config.count16 → s.rs.done < (stepStart n s).rs.done := by
  have hfinish (u : State) (h : s.rs.done ≤ u.rs.done) (hs : s.rs.done < Config.count16) :
      s.rs.done < satSucc Config.count16 u.rs.done := by
    unfold satSucc; split <;> omega
  exact (evaluate_keeps (fun u => s.rs.done ≤ u.rs.done ∧ (u.rs.run ≠ .running → s.rs.done < Config.count16 → s.rs.done < u.rs.done))
    (hdwell := fun _ _ h => h)
    (hlast := fun u _ _ _ h => by
      rw [enterIdle_rs, finishStep_rs]; exact ⟨h.1.trans (le_satSucc _ _), fun _ => hfinish u h.1⟩)
    (hstarve := fun u _ _ _ _ h => by
      rw [starve_rs, finishStep_rs]; exact ⟨h.1.trans (le_satSucc _ _), fun _ => hfinish u h.1⟩)
    (hnext := fun u _ _ _ _ _ _ h => by
      rw [startStep_rs]; exact ⟨h.1.trans (le_satSucc Config.count16 _), fun h => absurd rfl h⟩)
    (startStep n s) (by rw [startStep_rs]; exact ⟨le_rfl, fun h => absurd rfl h⟩)).2

theorem evaluate_queue_le (s : State) : (evaluate s).rs.queue.length ≤ s.rs.queue.length :=
  evaluate_keeps (fun u => u.rs.queue.length ≤ s.rs.queue.length) (hdwell := fun _ _ h => h)
    (hlast := fun _ _ _ _ h => by rw [enterIdle_rs]; exact h) (hstarve := fun _ _ _ _ _ h => h)
    (hnext := fun u _ n rest _ _ hq h => by
      rw [startStep_rs]
      rw [hq] at h
      exact (Nat.le_succ _).trans h) s le_rfl

theorem stepStart_queue_le (n : StepRecord) (s : State) : (stepStart n s).rs.queue.length ≤ s.rs.queue.length :=
  (evaluate_queue_le _).trans (by rw [startStep_rs])

theorem serveStepAppend_begun (body : List Byte) (s : State) :
    (serveStepAppend body s).state = s ∨ Begun s (serveStepAppend body s).state := by
  unfold serveStepAppend
  split
  · exact .inl rfl
  · split
    · exact .inl rfl
    · next raw _ =>
      split
      · exact .inl rfl
      · split
        · exact .inl rfl
        · right
          show Begun s (appendRecord (storeStep s.image raw) s)
          unfold appendRecord
          dsimp only
          split
          · next hrun =>
            obtain ⟨n, rest, hq⟩ := List.exists_cons_of_ne_nil (show s.rs.queue ++ [storeStep s.image raw] ≠ [] by simp)
            rw [startHead_of_queue (s := { s with rs.queue := s.rs.queue ++ [storeStep s.image raw] }) hq]
            exact .starved hrun fun h => stepStart_done n _ (by rw [h]; nofun)
          · exact .longer (by simp) rfl

theorem serveRunStart_begun (s : State) : (serveRunStart s).state = s ∨ Begun s (serveRunStart s).state := by
  unfold serveRunStart
  split
  · exact .inl rfl
  · split
    · exact .inl rfl
    · split
      · exact .inl rfl
      · next hq =>
        right
        obtain ⟨n, rest, hn⟩ := List.exists_cons_of_ne_nil (by simpa using hq : s.rs.queue ≠ [])
        dsimp only [answer]
        rw [startHead_of_queue (r := n) (rest := rest)]
        · refine .shorter (Nat.lt_of_le_of_lt (stepStart_queue_le n _) ?_)
          rw [hn]
          exact Nat.lt_succ_self _
        · exact hn

theorem serveRunResume_begun (s : State) : (serveRunResume s).state = s ∨ Begun s (serveRunResume s).state := by
  by_cases hrun : s.rs.run = .held
  · right
    refine .resumed hrun ?_
    have hstep (n : StepRecord) (v : State) : (stepStart n v).rs.run ≠ .held := by
      rcases stepStart_run n v with h | h | h <;> rw [h] <;> nofun
    unfold serveRunResume
    split
    · split
      · show (leaveHeld .starved s).rs.run ≠ .held
        rw [leaveHeld_rs]; nofun
      · next hq =>
        obtain ⟨n, rest, hn⟩ := List.exists_cons_of_ne_nil (by simpa using hq : s.rs.queue ≠ [])
        dsimp only [answer]
        rw [startHead_of_queue (s := leaveHeld .running s) (by simpa using hn)]
        exact hstep n _
    · show (evaluate (restartTimeout (leaveHeld .running s))).rs.run ≠ .held
      obtain ⟨x, hx⟩ := restartTimeout_rs (leaveHeld .running s)
      rcases evaluate_run (restartTimeout (leaveHeld .running s)) with h | ⟨-, h | h⟩ <;> rw [h]
      · rw [hx, leaveHeld_rs]; nofun
      · nofun
      · nofun
    · next h _ => exact absurd hrun h
  · rw [serveRunResume_of_ne_held hrun]; exact .inl rfl

/-- What the service of a request does to the shares, unless it starts, resumes or feeds the run. -/
theorem serveOwner_once (hc : movesShares c = false) (q : Request) (body : List Byte) (hearly : s.released = true ∨ q.early = true) :
    Once s (serveOwner q body s).state ∨ Begun s (serveOwner q body s).state := by
  have hsame {t : State} (h : t = s ∨ Begun s t) : Once s t ∨ Begun s t :=
    h.imp (fun h => by rw [h]; exact (Steady.refl s).once) id
  by_cases happend : q = .stepAppend
  · subst happend; exact hsame (serveStepAppend_begun body s)
  by_cases hstart : q = .runStart
  · subst hstart; exact hsame (serveRunStart_begun s)
  by_cases hresume : q = .runResume
  · subst hresume; exact hsame (serveRunResume_begun s)
  by_cases hdone : q = .configDone
  · subst hdone
    left
    unfold serveOwner serveConfigDone
    dsimp only
    split
    · exact (Steady.refl s).once
    · next hcfg =>
      have hrel := (unreleased_of_configurable (s := s) (by simpa using hcfg)).1
      split <;> exact validateStaging_once hrel
  · exact .inl ((serveOwner_acts (c := c) q body hearly).steady hc
      ⟨⟨by simpa using happend, by simpa using hstart, by simpa using hresume⟩, by simpa using hdone⟩).once

theorem movesShares_of_onPort (h : onPort c = true) : movesShares c = false := by
  cases c with
  | configWrite _ | configDone _ | statusRead _ | zoneRead _ | viewRead _ | eventRead _ | faultRead _ | faultClear _
  | stepAppend _ | queueClear _ | runStart _ | runHold _ | runResume _ | runAbort _ | boatMove _ | lineError _
  | lpGapTimeout _ | badCheckFrame _ _ _ | unknownKindRequest _ _ | replyEnd => rfl
  | _ => cases h

theorem exec_port_once (hport : onPort c = true) (h : exec c s = .next t) : Once s t ∨ Differs s t := by
  obtain ⟨u, hu, ht⟩ := exec_port_cases hport h
  have hserved : Once s u ∨ Begun s u := by
    rcases hu with ⟨l, rfl, -⟩ | ⟨-, l1, e, l2, -, rfl, -, -⟩
    · exact .inl (Steady.once (.of_same rfl))
    · rcases serveEntry_cases e { s with lp := l1 } with ⟨a, he, -⟩ | ⟨q, body, hearly, he⟩ <;> rw [he]
      · exact .inl (Steady.once (.of_same rfl))
      · rcases serveOwner_once (s := { s with lp := l1 }) (movesShares_of_onPort hport) q body hearly with h | h
        · exact .inl h
        · right
          cases h with
          | starved h hdone => exact .starved h hdone
          | shorter h => exact .shorter h
          | resumed h hrun => exact .resumed h hrun
          | longer h hrun => exact .longer h hrun
  rcases ht with rfl | ⟨-, -, rfl⟩
  · exact hserved.imp id Begun.differs
  · exact hserved.imp (·.then_steady (takeWaitingOrder_steady u)) Begun.order

/-! ### Every command -/

theorem setLevel_isolated (l : Level) (s : State) : (setLevel l s).bl.isolated = s.bl.isolated := by
  unfold setLevel; split <;> simp

theorem takeAnnounce_isolated (station : Nat) (b : AnnounceBody) (s : State) :
    (takeAnnounce station b s).bl.isolated = s.bl.isolated := by
  unfold takeAnnounce
  split
  · unfold takeEntry
    dsimp only
    split
    · rw [setLevel_isolated, commit_bl_isolated]
    · rw [commit_bl_isolated]
  · rfl

theorem takeCurtail_isolated (station : Nat) (level : Byte) (s : State) :
    (takeCurtail station level s).bl.isolated = s.bl.isolated := by
  unfold takeCurtail
  split
  · rfl
  · exact setLevel_isolated _ s

theorem takeAck_isolated (station : Nat) (level origin : Byte) (s : State) :
    (takeAck station level origin s).bl.isolated = s.bl.isolated := by
  unfold takeAck
  split
  · split
    · split <;> rfl
    · rfl
  · rfl

theorem peerHeard_isolated (s : State) : (peerHeard s).bl.isolated = false := by
  unfold peerHeard
  dsimp only
  split
  · simp
  · next h => simpa using h

theorem peerHeard_steady (h : s.bl.isolated = false) : Steady s (peerHeard s) := by
  unfold peerHeard
  dsimp only
  rw [if_neg (by simp [h])]
  exact .of_same rfl

/-- A command beside the resets and the completion: the inputs of the shares change once, but for the frames that change them twice. -/
theorem exec_once (h : exec c s = .next t) (hsc : s.StartCoherent) (hc : c ≠ .powerOnReset ∧ c ≠ .warmReset ∧ c ≠ .transmitCompletion)
    (hiso : s.bl.isolated = true → t.bl.isolated = true)
    (hjoin : t.shareInputs = s.shareInputs ∨ (s.bl.phase = .joining → t.bu.level = s.bu.level)) : Once s t ∨ Differs s t := by
  cases hport : onPort c with
  | true => exact exec_port_once hport h
  | false =>
    cases hmoves : movesShares c with
    | false => exact .inl ((exec_acts_of_not_onPort hport h).steady hmoves ⟨⟨nofun, nofun, nofun⟩, nofun⟩).once
    | true =>
      left
      have hcommit {u : State} (hrs : u.rs = s.rs) (hbu : u.bu.heldHeater = s.bu.heldHeater ∧ u.bu.heldPurge = s.bu.heldPurge)
          (hzc : u.zc = s.zc) (hgc : u.gc = s.gc) (hbd : u.bd.pulse = s.bd.pulse) (hlp : u.lp = s.lp)
          (hbl : u.bl.announceSlot = s.bl.announceSlot) : Once s (commit s u) :=
        (Reacts.of_commit_change (c := .gcPeriod) (r := none) hbu (fun h => hbl ▸ h) ⟨by rw [hzc], by rw [hzc]⟩ (fun l h => hgc ▸ h) (.inl hbd)
          (fun k h => hlp ▸ h)).once nofun ((commit_rs _ _).trans hrs)
      cases c with
      | powerOnReset => exact absurd rfl hc.1
      | warmReset => exact absurd rfl hc.2.1
      | transmitCompletion => exact absurd rfl hc.2.2
      | encoderCount l =>
        cases h
        dsimp only
        split
        · exact hcommit rfl ⟨rfl, rfl⟩ rfl rfl rfl rfl rfl
        · exact Steady.once (.of_same rfl)
      | bdEvaluation => cases h; exact beforeOrder_once (bdEvaluates_once s)
      | zcPeriod => cases h; exact beforeOrder_once (zcPasses_once s)
      | gcPeriod => cases h; exact beforeOrder_once (gcPasses_once s)
      | entryStale n => cases h; exact hcommit rfl ⟨rfl, rfl⟩ rfl rfl rfl rfl rfl
      | entryRemoved n => cases h; exact hcommit rfl ⟨rfl, rfl⟩ rfl rfl rfl rfl rfl
      | listenTimerExpiry =>
        cases h
        split
        · next hp =>
          have hrel : s.released = true := by
            by_contra hrel
            rw [(hsc.quiet (by simpa using hrel)).2.2.2.2.2.2.2] at hp
            cases hp.1
          refine Steady.once (.inr ⟨.of_rs rfl, .of_same ?_ ⟨rfl, rfl⟩⟩)
          simp only [State.shareInputs, State.rank, hrel]
          rfl
        · exact (Steady.refl s).once
      | resetEnd src addr =>
        cases h
        split
        · next hheld =>
          have hrel : s.released = false := by simp [State.released, (hsc.reset hheld).1]
          have hload : Steady s { s with cl := (endReset src addr s).cl } :=
            .inr ⟨.of_rs rfl, .loader hrel (by simp only [State.released, endReset]; cases src <;> rfl) (hsc.quiet hrel).1.symm⟩
          exact (hload.trans (u := endReset src addr s) (.of_same rfl)).once
        · exact (Steady.refl s).once
      | silenceTimerExpiry =>
        cases h
        split
        · dsimp only
          split
          · exact .raised _ (hcommit rfl ⟨rfl, rfl⟩ rfl rfl rfl rfl rfl)
          · exact Steady.once (.of_same rfl)
        · exact (Steady.refl s).once
      | debounceTimerExpiry =>
        cases h
        split
        · have hdeb : Steady s { s with bu.debounced := s.inputLevel, bu.debounce := .stopped } := .of_same rfl
          exact hdeb.then_once (adoptLocal_once _)
        · exact (Steady.refl s).once
      | serialMemoryReadEnd bytes =>
        cases h
        split
        · next hr =>
          obtain ⟨hl, -, -⟩ : s.cl.startup = .loading ∧ s.resetHeld = none ∧ s.cl.cfgsrc = .memory := by
            simpa [State.readingMemory] using hr
          have hrel : s.released = false := by simp [State.released, hl]
          have hstage : Steady s { s with cl.staging := (bytes ++ List.replicate 64 0).take 64 } := .inr ⟨.of_rs rfl, .loader hrel hrel rfl⟩
          exact hstage.then_once (validateStaging_once hrel)
        · exact (Steady.refl s).once
      | announceReceived station body =>
        cases h
        refine receiveFrame_once ?_ hiso fun u hu hp hl he => takeAnnounce_once _ body u ?_
        · exact takeAnnounce_isolated _ body
        · rw [he, hp, hl, hu.1]; exact hjoin
      | curtailReceived station level =>
        cases h
        refine receiveFrame_once ?_ hiso fun u _ _ _ _ => takeCurtail_once _ level u
        exact takeCurtail_isolated _ level
      | curtailAckReceived station level origin =>
        cases h
        refine receiveFrame_once ?_ hiso fun u _ _ _ _ => (takeAck_steady _ level origin u).once
        exact takeAck_isolated _ level origin
      | otherKindFrame code station body =>
        cases h
        split
        · refine meetFrame_once fun heq => ?_
          split
          · exact (Steady.refl _).once
          · next hst =>
            rw [if_neg hst] at heq
            refine (peerHeard_steady (s := frameEnds s) (Bool.eq_false_iff.2 fun his => ?_)).once
            have := hiso his
            rw [if_pos (by assumption), ← heq, peerHeard_isolated] at this
            cases this
        · exact (Steady.refl s).once
      | _ => cases hmoves

/-! ### The invariant -/

theorem raisePending_iff (s : State) : s.RaisePending ↔ ∀ p, s.heldGrant p < s.computedGrant p → s.bl.announceSlot = true :=
  ⟨fun h p hp => h (by cases p <;> [exact .inl hp; exact .inr hp]), fun h hp => hp.elim (h .heater) (h .purge)⟩

/-- Each held grant within its computed grant, and ANNOUNCE pending where one is below (R120, R121). -/
def State.GrantsInOrder (s : State) : Prop := s.HeldWithinComputed ∧ s.RaisePending

theorem State.GrantsInOrder.of_same (hs : s.GrantsInOrder) (hin : t.shareInputs = s.shareInputs) (hheld : ∀ p, t.heldGrant p = s.heldGrant p)
    (hslot : s.bl.announceSlot = true → t.bl.announceSlot = true) : t.GrantsInOrder := by
  obtain ⟨h1, h2⟩ := hs
  rw [heldWithinComputed_iff] at h1
  rw [raisePending_iff] at h2
  refine ⟨(heldWithinComputed_iff t).2 fun p => ?_, (raisePending_iff t).2 fun p hp => ?_⟩
  · rw [hheld, computedGrant_congr hin]; exact h1 p
  · rw [hheld, computedGrant_congr hin] at hp; exact hslot (h2 p hp)

theorem Reacts.grantsInOrder (h : Reacts c r s t) (hc : c ≠ .transmitCompletion) (hs : s.GrantsInOrder) : t.GrantsInOrder := by
  rcases h.held hc with ⟨hin, hheld⟩ | ⟨hmin, hraise⟩
  · exact hs.of_same hin hheld (h.slot hc)
  · exact ⟨(heldWithinComputed_iff t).2 fun p => by rw [hmin]; exact min_le_right _ _, hraise⟩

theorem grantsInOrder_raiseCheck (h : s.HeldWithinComputed) : (raiseCheck s).GrantsInOrder := by
  have hin := raiseCheck_shareInputs s
  refine ⟨(heldWithinComputed_iff _).2 fun p => ?_, (raisePending_iff _).2 fun p hp => ?_⟩
  · rw [raiseCheck_heldGrant, computedGrant_congr hin]; exact (heldWithinComputed_iff s).1 h p
  · rw [raiseCheck_heldGrant, computedGrant_congr hin] at hp
    rw [raiseCheck_announceSlot, Bool.or_eq_true, decide_eq_true_eq]
    exact .inr (by cases p <;> [exact .inl hp; exact .inr hp])

theorem completeAnnounce_grantsInOrder (b : AnnounceBody) (h : s.HeldWithinComputed) : (completeAnnounce b s).GrantsInOrder := by
  rw [completeAnnounce_eq]
  refine grantsInOrder_raiseCheck ((heldWithinComputed_iff _).2 fun p => ?_)
  have hraised : (raisedGrants b s).computedGrant p = s.computedGrant p := computedGrant_congr rfl p
  rw [heldWithinComputed_iff] at h
  rw [commit_raisedGrants_held, commit_computedGrant, hraised]
  have hp := h p
  cases p with
  | heater => exact max_le hp (min_le_right _ _)
  | purge => exact max_le hp (min_le_right _ _)

/-- No grant is computed or held in a part as its reset leaves it (R119). -/
theorem grantsInOrder_enterReset (k : ResetKind) (f : FaultLog) (s : State) : (enterReset k f s).GrantsInOrder := by
  have hin : (enterReset k f s).shareInputs = State.reset.shareInputs := rfl
  have hzero (p : Supply) : (enterReset k f s).computedGrant p = 0 := by
    rw [computedGrant_congr hin]
    cases p <;> decide
  exact ⟨(heldWithinComputed_iff _).2 fun p => by cases p <;> exact Nat.zero_le _,
    (raisePending_iff _).2 fun p hp => by rw [hzero] at hp; cases hp⟩

theorem exec_grantsInOrder (h : exec c s = .next t) (hsc : s.StartCoherent) (hs : s.GrantsInOrder) : t.GrantsInOrder := by
  by_cases hpor : c = .powerOnReset
  · subst hpor; cases h; exact grantsInOrder_enterReset _ _ _
  by_cases hwarm : c = .warmReset
  · subst hwarm
    cases h
    split
    · exact hs
    · exact grantsInOrder_enterReset _ _ _
  by_cases hcomplete : c = .transmitCompletion
  · subst hcomplete
    cases h
    split
    · next a ha =>
      obtain ⟨frame, replaced⟩ := a
      have hends : State.GrantsInOrder { frameEnds s with bl.attempt := none, bl.abandons := 0 } :=
        hs.of_same rfl (fun _ => rfl) id
      cases frame with
      | announce b => exact completeAnnounce_grantsInOrder b hends.1
      | curtail | ack =>
        unfold completeFrame
        dsimp only
        split
        · exact hends
        · exact hs.of_same rfl (fun p => by cases p <;> rfl) id
    · exact hs
  · exact exec_keeps_reacts h ⟨hpor, hwarm⟩ hsc hs fun r u v hre => hre.grantsInOrder hcomplete

/-- The clock ages the entries of the view, and the shares do not turn on their age (R106, R114). -/
theorem advance_shareInputs (s : State) : (advance s).shareInputs = s.shareInputs := by
  have hpeers (p : Supply) : (advance s).peersCounted p = s.peersCounted p := by
    show (s.bu.view.map _).map _ = s.bu.view.map _
    rw [List.map_map]
    rfl
  have hstations : (advance s).bu.view.map (·.station) = s.bu.view.map (·.station) := by
    show (s.bu.view.map _).map _ = s.bu.view.map _
    rw [List.map_map]
    rfl
  simp only [State.shareInputs, hpeers, hstations]
  rfl

theorem step_grantsInOrder (h : step s = .next t) (hsc : s.StartCoherent) (hs : s.GrantsInOrder) : t.GrantsInOrder :=
  (step_keeps (P := fun u => u.StartCoherent ∧ u.GrantsInOrder) h ⟨hsc, hs⟩
    (fun _ _ _ hu => ⟨⟨hu.1.quiet, hu.1.image, hu.1.station, hu.1.reset⟩, hu.2⟩)
    (fun hu => ⟨advance_startCoherent hu.1, hu.2.of_same (advance_shareInputs s) (fun p => by cases p <;> rfl) id⟩)
    fun _ _ hu h => ⟨exec_startCoherent h hu.1, exec_grantsInOrder h hu.1 hu.2⟩).2

/-! ### The three parts -/

/-- A single change leaves each held grant at the smaller of what it was and what is computed. -/
theorem Once.heldGrant (h : Once s t) (hs : s.HeldWithinComputed) (hno : ¬ Differs s t) (p : Supply) :
    t.heldGrant p = min (s.heldGrant p) (t.computedGrant p) := by
  rcases h with (h | ⟨-, h⟩) | ⟨-, h | h⟩
  · exact absurd (.inl fun heq => by rw [heq] at h; exact lt_irrefl _ h) hno
  · exact absurd (.inr (.inl fun heq => by rw [heq] at h; exact lt_irrefl _ h)) hno
  · rw [h.2, computedGrant_congr h.1]
    exact (min_eq_left ((heldWithinComputed_iff s).1 hs p)).symm
  · exact h p

/-- A change with its reactions, from held grants within their computed ones. -/
theorem Reacts.heldGrant (h : Reacts .gcPeriod none s t) (hs : s.HeldWithinComputed) (p : Supply) :
    t.heldGrant p = min (s.heldGrant p) (t.computedGrant p) := by
  rcases h.held nofun with ⟨hin, hheld⟩ | ⟨hmin, -⟩
  · rw [hheld, computedGrant_congr hin]
    exact (min_eq_left ((heldWithinComputed_iff s).1 hs p)).symm
  · exact hmin p

theorem exec_follows (h : exec c s = .next t) (hsc : s.StartCoherent) (hs : s.HeldWithinComputed) (hpor : c ≠ .powerOnReset)
    (hwarm : c ≠ .warmReset) (hno : ¬ Differs s t) (p : Supply) :
    (t.heldGrant p < s.heldGrant p → t.shareInputs ≠ s.shareInputs) ∧
    (c ≠ .transmitCompletion → (s.bl.isolated = true → t.bl.isolated = true) →
      (s.bl.phase = .joining → t.bu.level = s.bu.level) → t.heldGrant p = min (s.heldGrant p) (t.computedGrant p)) := by
  refine ⟨fun hlt hin => ?_, fun hc hiso hjoin =>
    ((exec_once h hsc ⟨hpor, hwarm, hc⟩ hiso (.inr hjoin)).resolve_right hno).heldGrant hs hno p⟩
  by_cases hc : c = .transmitCompletion
  · subst hc
    rcases exec_transmitCompletion_held h p with heq | ⟨b, replaced, -, heq⟩ <;> rw [heq] at hlt
    · exact lt_irrefl _ hlt
    · exact absurd hlt (not_lt.2 (le_max_left _ _))
  · have hiso : s.bl.isolated = true → t.bl.isolated = true := fun hi => by
      rw [show t.bl.isolated = s.bl.isolated from congrArg ShareInputs.isolated hin]; exact hi
    have heq := ((exec_once h hsc ⟨hpor, hwarm, hc⟩ hiso (.inl hin)).resolve_right hno).heldGrant hs hno p
    rw [computedGrant_congr hin, min_eq_left ((heldWithinComputed_iff s).1 hs p)] at heq
    exact absurd hlt (by rw [heq]; exact lt_irrefl _)

end

/-- Settles O8: the reactions keep the invariant, and beside the run a command changes the inputs of the shares once at most. -/
theorem grantsFollowShares : Obligations.GrantsFollowShares := by
  refine ⟨fun s t hsc hwithin hraise h => step_grantsInOrder h hsc ⟨hwithin, hraise⟩,
    fun c s t p hsc hwithin h hpor hwarm hdone hrun _ hqueue hsame => ?_, fun s n p hwithin entry hentry => ?_⟩
  · refine exec_follows h hsc hwithin hpor hwarm (fun hdiff => ?_) p
    rcases hdiff with h | h | h
    · exact h hrun
    · exact h hqueue
    · exact h hdone hsame
  · simp only [List.mem_cons, List.not_mem_nil, or_false] at hentry
    rcases hentry with rfl | rfl | rfl | rfl
    · exact (enterHeld_reacts s).heldGrant hwithin p
    · exact (enterIdle_reacts s).heldGrant hwithin p
    · exact (beginAbort_reacts s).heldGrant hwithin p
    · exact (startStep_reacts n s).heldGrant hwithin p

end Sys2Proof.Machine
end

section
/-!
PROOF. The machine itself: a step, the resets and their values (R182, R183).
-/
namespace Sys2Proof.Machine

/-- Settles O1: the step function is defined so. -/
theorem stepRunsFrontCommand : Obligations.StepRunsFrontCommand := fun _ _ _ => rfl

/-- Settles O4: each reset command has one branch for a part in reset and one for a part out of it. -/
theorem resetCommands : Obligations.ResetCommands := by
  intro s
  have hout (h : s.resetHeld = none) : s.resetHeld.isSome = false := by rw [h]; rfl
  refine ⟨rfl, fun h => ?_, fun h => ?_, fun addr h => ?_, fun addr h => ?_, fun src addr h => ?_⟩
  · exact congrArg Host.Outcome.next (if_neg (by simp [hout h]))
  · exact congrArg Host.Outcome.next (if_pos h)
  · exact congrArg Host.Outcome.next (if_pos h)
  · exact congrArg Host.Outcome.next (if_pos h)
  · exact congrArg Host.Outcome.next (if_neg (by simp [hout h]))

theorem bstepLevel_of_no_pulse {s : State} (h : s.bd.pulses = 0) (us : Nat) : s.bstepLevel us = false := by
  simp [State.bstepLevel, h]

/-- Settles O5: the values are read off `State.reset`, zone by zone and line by line. -/
theorem resetValues : Obligations.ResetValues := by
  refine ⟨by decide, fun z => ?_, by decide, fun l => ?_, by decide, by decide, ?_, ?_, by decide, by decide, by decide, by decide⟩
  · cases z <;> decide
  · cases l <;> decide
  · exact ⟨rfl, rfl, rfl, by decide, rfl, rfl, rfl, rfl, rfl, by decide, rfl, rfl, rfl, rfl, rfl, rfl, by decide, rfl,
      bstepLevel_of_no_pulse rfl⟩
  · exact ⟨rfl, rfl, rfl, by decide, rfl, rfl, rfl, rfl, rfl, rfl, rfl, rfl, fun p => by cases p <;> decide⟩

theorem pulseTimerFollows_reset : State.reset.PulseTimerFollows := by decide

theorem setpointsWithinLimit_reset : State.reset.SetpointsWithinLimit where
  target z t h := by cases z <;> cases h
  setpoint z x h := by cases z <;> cases h
  steps := nofun
  idle := by decide

/-- Settles O6: most of what the invariants speak of is empty in `State.reset`. -/
theorem resetMeetsInvariants : Obligations.ResetMeetsInvariants where
  left := ⟨fun _ => ⟨rfl, rfl, rfl, rfl, rfl, rfl, rfl, rfl⟩, nofun, nofun, fun _ => ⟨rfl, rfl⟩⟩
  right := by
    refine ⟨by decide, by decide, ?_, ?_, ?_, runCoherent_reset rfl, nofun, pulseTimerFollows_reset, setpointsWithinLimit_reset, ?_,
      by decide, nofun⟩
    · constructor <;> decide
    · exact ⟨Nat.zero_le _, Nat.zero_le _, nofun, nofun, by decide⟩
    · exact ⟨List.Pairwise.nil, nofun⟩
    · exact ⟨rfl, nofun, nofun, nofun, nofun, List.nodup_nil, List.nil_sublist _, List.nil_sublist _, nofun, rfl⟩

end Sys2Proof.Machine
end

section
/-!
PROOF. The part's own clock (logs 2, 3, 20): the idle step, one millisecond, and when each command is due.
-/
namespace Sys2Proof.Machine

theorem mem_dueIf {b : Bool} {c d : Instr} : c ∈ dueIf b d ↔ b = true ∧ c = d := by
  unfold dueIf; split <;> simp_all

theorem timer_due_iff {x : Timer} : x.due = true ↔ x = .running 0 := by
  cases x <;> simp [Timer.due]

theorem window_due_iff {w : Window} : w.due = true ↔ w = .waiting 0 ∨ ∃ t, w = .running t ∧ 1000 ≤ t := by
  have hms : Config.windowMs = 1000 := rfl
  cases w <;> simp [Window.due, hms]

section
variable {s : State} {c : Instr}

theorem mem_zone_all (z : Zone) : z ∈ Zone.all := by cases z <;> decide

theorem mem_gasLine_all (l : GasLine) : l ∈ GasLine.all := by cases l <;> decide

/-- The commands that are due, block by block. -/
theorem mem_due : c ∈ due s ↔ s.resetHeld = none ∧ (c ∈ dueRun s ∨ (∃ z, c ∈ dueZone s z) ∨
    s.released = true ∧ (c ∈ duePeriods s ∨ (∃ l, c ∈ dueLine s l) ∨ c = .setpointRecordSend ∧ s.gc.queue ≠ [] ∨ c ∈ dueBoat s ∨
      (∃ e ∈ s.bu.view, c ∈ dueEntry s.image.announcePeriod e) ∨ c ∈ dueLink s) ∨ c ∈ duePort s) := by
  unfold due
  cases hheld : s.resetHeld with
  | some k => simp
  | none =>
    cases hrel : s.released with
    | true => simp [mem_zone_all, mem_gasLine_all, mem_dueIf, or_assoc, and_comm]
    | false => simp [mem_zone_all]

theorem mem_dueRun : c ∈ dueRun s ↔
    (∃ d, s.dwellPending = some d ∧ d * 1000 ≤ s.rs.dwell.elapsed) ∧ c = .dwellExpiry ∨
    (s.rs.run = .running ∧ s.rs.current.isSome ∧ s.rs.stepTimer = .running 0) ∧ c = .stepTimeoutExpiry ∨
    (s.rs.run = .aborting ∧ s.rs.abortTimer = .running 0) ∧ c = .abortTimeout ∨
    (s.rs.run ≠ .idle ∧ s.rs.clockPhase = .running 0) ∧ c = .runClockTick := by
  simp [dueRun, mem_dueIf, timer_due_iff, Option.any_eq_true, and_assoc]

theorem mem_dueZone {z : Zone} : c ∈ dueZone s z ↔
    (s.zoneM z).profile.timer = .running 0 ∧ c = .channelTimerExpiry z .profile ∨
    (s.zoneM z).spike.timer = .running 0 ∧ c = .channelTimerExpiry z .spike ∨
    ((s.zoneM z).state = .lostHold ∧ (s.zoneM z).holdTimer = .running 0) ∧ c = .holdTimerExpiry z ∨
    ((s.zoneC z).window = .waiting 0 ∨ ∃ t, (s.zoneC z).window = .running t ∧ 1000 ≤ t) ∧ c = .heaterWindowStart z := by
  simp [dueZone, mem_dueIf, timer_due_iff, window_due_iff]

theorem mem_duePeriods : c ∈ duePeriods s ↔ s.zm.phase = .running 0 ∧ c = .zmPeriod ∨ s.zc.phase = .running 0 ∧ c = .zcPeriod ∨
    s.gc.phase = .running 0 ∧ c = .gcPeriod ∨ s.bd.phase = .running 0 ∧ c = .bdEvaluation := by
  simp [duePeriods, mem_dueIf, timer_due_iff]

theorem mem_dueLine {l : GasLine} : c ∈ dueLine s l ↔ (s.line l).timer = .running 0 ∧ c = .readbackTimerExpiry l ∨
    (s.line l).repeatTimer = .running 0 ∧ c = .repeatTimerExpiry l := by
  simp [dueLine, mem_dueIf, timer_due_iff]

theorem mem_dueBoat : c ∈ dueBoat s ↔ (s.bd.gate = .reclearing ∧ s.bd.reclear = .running 0) ∧ c = .reclearTimerExpiry ∨
    (s.pulsing = true ∧ ∃ t, s.bd.pulse = some t ∧ ∃ v, s.pulseInterval = some v ∧ v ≤ t) ∧ c = .stepPulse := by
  simp [dueBoat, mem_dueIf, timer_due_iff, Option.any_eq_true]

theorem mem_dueEntry {p : Nat} {e : ViewEntry} : c ∈ dueEntry p e ↔ 10 * p ≤ e.age ∧ c = .entryRemoved e.station ∨
    (e.stale = false ∧ 3 * p ≤ e.age ∧ e.age < 10 * p) ∧ c = .entryStale e.station := by
  unfold dueEntry
  split
  · next h => simp [h]
  · next h =>
    rw [mem_dueIf]
    simp only [Bool.and_eq_true, Bool.not_eq_true', decide_eq_true_eq]
    constructor
    · rintro ⟨⟨h1, h2⟩, rfl⟩
      exact .inr ⟨⟨h1, h2, Nat.lt_of_not_le h⟩, rfl⟩
    · rintro (⟨h', -⟩ | ⟨⟨h1, h2, -⟩, rfl⟩)
      · exact absurd h' h
      · exact ⟨⟨h1, h2⟩, rfl⟩

theorem mem_dueLink : c ∈ dueLink s ↔
    (s.bl.attempt = none ∧ ∃ us, s.bl.line = .recessive us ∧ 96 ≤ us) ∧ c = .lineIdle ∨
    s.mayAttempt = true ∧ c = .attemptStart ∨ s.bl.announce = .running 0 ∧ c = .announceTimerExpiry ∨
    (s.bl.phase = .joining ∧ s.bl.listen = .running 0) ∧ c = .listenTimerExpiry ∨
    (s.bl.phase = .on ∧ s.bl.silence = .running 0) ∧ c = .silenceTimerExpiry ∨
    (s.bl.mute = true ∧ s.bl.muteTimer = .running 0) ∧ c = .muteTimerExpiry ∨
    s.bu.debounce = .running 0 ∧ c = .debounceTimerExpiry ∨
    (∃ k, s.bu.collection = some k ∧ k.timer = .running 0) ∧ c = .ackTimerExpiry := by
  have hidle : Config.idleUs = 96 := rfl
  unfold dueLink
  simp only [List.mem_append, mem_dueIf]
  cases s.bl.line <;> simp [timer_due_iff, Option.any_eq_true, or_assoc, hidle, and_comm]

theorem mem_duePort : c ∈ duePort s ↔ (20 < s.lp.gap ∧ s.lp.rx ≠ .hunting) ∧ c = .lpGapTimeout [] ∨
    (s.lp.reply.isSome ∧ s.lp.replyTimer = .running 0) ∧ c = .replyEnd := by
  have hgap : Config.gapMs = 20 := rfl
  simp [duePort, mem_dueIf, timer_due_iff, hgap]

/-- What an idle step does (logs 2, 3, 20). -/
theorem idleStep_cases (s : State) : (due s = [] → s.resetHeld.isSome → idleStep s = s) ∧
    (due s = [] → s.resetHeld = none → idleStep s = advance s) ∧
    (due s ≠ [] → ∃ c ∈ due s, idleStep s = { s with pending := [c], free := (idleStep s).free }) := by
  unfold idleStep
  refine ⟨fun h h' => ?_, fun h h' => ?_, fun h => ?_⟩
  · rw [h]; exact if_pos h'
  · rw [h]; exact if_neg (by simp [h'])
  · split
    · next h' => exact absurd h' h
    · next d h' => exact ⟨d, by simp [h'], rfl⟩
    · next d ds hne h' =>
      refine ⟨_, ?_, rfl⟩
      rw [h', List.getD_eq_getElem _ _ (by simpa using Nat.mod_lt _ (Nat.succ_pos ds.length))]
      exact List.getElem_mem _

/-- The clock, field by field, with a running timer's loss of a millisecond written out (R15, R22, R25). -/
theorem dwellPending_isSome (s : State) : s.dwellPending.isSome =
    (decide (s.rs.run = .running ∧ s.rs.dwell.phase = .counting ∧ s.rs.dwell.holds = false) && s.rs.current.any (·.conditions.dwell)) := by
  unfold State.dwellPending
  cases s.rs.current with
  | none => simp
  | some r =>
    dsimp only [Option.any]
    split
    · next h => simp [h.1, h.2.1, h.2.2.1, h.2.2.2]
    · next h =>
      symm
      simp only [Option.isSome, Bool.and_eq_false_iff, decide_eq_false_iff_not]
      by_contra hcon
      push Not at hcon
      obtain ⟨⟨h1, h2, h3⟩, h4⟩ := hcon
      exact h ⟨h1, by simpa using h4, h2, by simp [h3]⟩

end

theorem dwell_due_iff {s : State} : (∃ d, s.dwellPending = some d ∧ d * 1000 ≤ s.rs.dwell.elapsed) ↔
    ∃ r, s.rs.run = .running ∧ s.rs.current = some r ∧ r.conditions.dwell = true ∧ s.rs.dwell.phase = .counting ∧
      s.rs.dwell.holds = false ∧ r.dwell * 1000 ≤ s.rs.dwell.elapsed := by
  unfold State.dwellPending
  cases s.rs.current with
  | none => simp
  | some r =>
    dsimp only
    split
    · next h => simp [h.1, h.2.1, h.2.2.1, h.2.2.2]
    · next h =>
      constructor
      · rintro ⟨d, hd, -⟩
        cases hd
      · rintro ⟨r', h1, h2, h3, h4, h5, -⟩
        obtain rfl : r = r' := by simpa using h2
        exact absurd ⟨h1, h3, h4, by simpa using h5⟩ h

/-- Settles O2: the idle step and the clock by their definitions, a command due block by block. -/
theorem idleStepRunsTheClock : Obligations.IdleStepRunsTheClock := by
  refine ⟨fun s h => ⟨idleStep s, ?_, idleStep_cases s⟩, ?_, ?_⟩
  · unfold step; rw [h]
  · intro s tick older dwelling
    have htick : tick = Timer.tick := by funext x; cases x <;> rfl
    have holder : older = tickChannel := by funext x; simp only [older, htick, tickChannel]
    have hdwell : dwelling = s.dwellPending.isSome := (dwellPending_isSome s).symm
    clear_value older tick dwelling
    subst htick holder hdwell
    unfold advance
    congr 1
    · generalize s.dwellPending.isSome = b
      cases b <;> rfl
    · generalize s.bl.line = x
      cases x <;> rfl
  · intro s c
    rw [mem_due]
    cases c with
    | dwellExpiry =>
      simp [mem_dueRun, mem_dueZone, mem_duePeriods, mem_dueLine, mem_dueBoat, mem_dueEntry, mem_dueLink, mem_duePort, dwell_due_iff]
    | lpGapTimeout chars =>
      simp [mem_dueRun, mem_dueZone, mem_duePeriods, mem_dueLine, mem_dueBoat, mem_dueEntry, mem_dueLink, mem_duePort, and_comm, and_assoc]
    | channelTimerExpiry z k =>
      cases k <;> simp [mem_dueRun, mem_dueZone, mem_duePeriods, mem_dueLine, mem_dueBoat, mem_dueEntry, mem_dueLink, mem_duePort,
        ZoneMeasurement.channel]
    | entryStale n | entryRemoved n =>
      simp [mem_dueRun, mem_dueZone, mem_duePeriods, mem_dueLine, mem_dueBoat, mem_dueEntry, mem_dueLink, mem_duePort,
        and_comm, and_left_comm, eq_comm (a := n)]
    | attemptStart =>
      simp [mem_dueRun, mem_dueZone, mem_duePeriods, mem_dueLine, mem_dueBoat, mem_dueEntry, mem_dueLink, mem_duePort,
        State.mayAttempt, Bank.anyPending, and_assoc, or_assoc, and_comm, and_left_comm]
    | _ => simp [mem_dueRun, mem_dueZone, mem_duePeriods, mem_dueLine, mem_dueBoat, mem_dueEntry, mem_dueLink, mem_duePort]

end Sys2Proof.Machine
end

section
/-!
PROOF. Steps: the conditions of a completion part and the evaluation (R13 to R18), a target taken by BD (R87), and a step start
whole (R12).
-/
namespace Sys2Proof.Machine

/-! ### Completion -/

section
variable {s : State}

theorem othersHold_iff {c : Conditions} : s.othersHold c = true ↔ (c.thermalSettled = true → s.thermalSettled = true) ∧
    (c.boatArrived = true → s.boatArrived = true) ∧ (c.purgeDone = true → s.purgeDone = true) := by
  cases h1 : c.thermalSettled <;> cases h2 : c.boatArrived <;> cases h3 : c.purgeDone <;>
    simp [State.othersHold, h1, h2, h3, and_assoc]

theorem conditionsHold_iff {c : Conditions} :
    s.conditionsHold c = true ↔ s.othersHold c = true ∧ (c.dwell = true → s.rs.dwell.holds = true) := by
  cases h : c.dwell <;> simp [State.conditionsHold, h]

theorem motion_eq_rest_iff : s.motion = .rest ↔ s.rs.run ≠ .held ∧ s.bd.move = none := by
  unfold State.motion
  split
  · simp_all
  · split
    · simp_all
    · split
      · simp_all
      · split <;> simp_all

theorem purgeDone_iff :
    s.purgeDone = true ↔ ∃ x, s.gc.requirement = some x ∧ x * s.image.tubeVolume * 120 ≤ s.gc.acc := by
  unfold State.purgeDone State.purgeUnits
  cases s.gc.requirement <;> simp

theorem updateDwell_othersHold (c : Conditions) : (updateDwell s).othersHold c = s.othersHold c := by
  obtain ⟨d, hd⟩ := updateDwell_cases s
  rw [hd]
  rfl

theorem updateDwell_current : (updateDwell s).rs.current = s.rs.current := by
  obtain ⟨d, hd⟩ := updateDwell_cases s
  rw [hd]

theorem updateDwell_run : (updateDwell s).rs.run = s.rs.run := by
  obtain ⟨d, hd⟩ := updateDwell_cases s
  rw [hd]

/-- A completed step stops its dwell timer, whatever the evaluation has just made of it (R15, R16). -/
theorem finishStep_updateDwell (r : StepRecord) : finishStep r (updateDwell s) = finishStep r s := by
  obtain ⟨d, hd⟩ := updateDwell_cases s
  rw [hd]
  rfl

theorem evaluate_of_no_current (h : s.rs.current = none) : evaluate s = s := by
  have hd : updateDwell s = s := by
    unfold updateDwell
    rw [h]
  simp only [evaluate, evaluateLoop, hd, h]
  cases s.rs.run <;> rfl

section
variable {r : StepRecord} (hrun : s.rs.run = .running) (hcur : s.rs.current = some r)
include hrun hcur

/-- An evaluation whose conditions do not all hold leaves what it made of the dwell timer (R15). -/
theorem evaluate_of_open (h : ¬ (updateDwell s).conditionsHold r.conditions = true) : evaluate s = updateDwell s := by
  simp only [evaluate, evaluateLoop, updateDwell_run.trans hrun, updateDwell_current.trans hcur]
  exact if_neg h

section
variable (h : (updateDwell s).conditionsHold r.conditions = true)
include h

/-- A step whose conditions all hold is done, and the evaluation goes on from there (R16). -/
theorem evaluate_of_done : evaluate s = if r.last then enterIdle (finishStep r s) else
    match s.rs.queue with
    | [] => starve (finishStep r s)
    | next :: rest => stepStart next { finishStep r s with rs.queue := rest } := by
  have hloop : evaluate s = if r.last then enterIdle (finishStep r s) else
      match (finishStep r s).rs.queue with
      | [] => starve (finishStep r s)
      | next :: rest => evaluateLoop s.rs.queue.length (startStep next { finishStep r s with rs.queue := rest }) := by
    simp only [evaluate, evaluateLoop, updateDwell_run.trans hrun, updateDwell_current.trans hcur, finishStep_updateDwell]
    exact if_pos h
  rw [hloop, show (finishStep r s).rs.queue = s.rs.queue from rfl]
  cases s.rs.queue with
  | nil => rfl
  | cons next rest =>
    have hq : (startStep next { finishStep r s with rs.queue := rest }).rs.queue = rest := by rw [startStep_rs]
    simp only [stepStart, evaluate, hq, List.length_cons]

theorem evaluate_of_last (hlast : r.last = true) : evaluate s = enterIdle (finishStep r s) := by
  rw [evaluate_of_done hrun hcur h, if_pos hlast]

theorem evaluate_of_starving (hlast : r.last = false) (hq : s.rs.queue = []) : evaluate s = starve (finishStep r s) := by
  rw [evaluate_of_done hrun hcur h, if_neg (by simp [hlast]), hq]

theorem evaluate_of_next (hlast : r.last = false) {next : StepRecord} {rest : List StepRecord} (hq : s.rs.queue = next :: rest) :
    evaluate s = stepStart next { finishStep r s with rs.queue := rest } := by
  rw [evaluate_of_done hrun hcur h, if_neg (by simp [hlast]), hq]

end
end
end

/-- Settles O35: the conditions by their definitions; the evaluation by whether they hold once the dwell timer has followed. -/
theorem completionEvaluated : Obligations.CompletionEvaluated := by
  refine ⟨fun s c => ⟨othersHold_iff, by simp [State.thermalSettled], by simp [State.boatArrived, motion_eq_rest_iff], purgeDone_iff⟩,
    fun s => ⟨fun h => h.elim evaluate_of_ne_running evaluate_of_no_current, ?_⟩⟩
  intro r hrun hcur dwell done
  have hvalue : (updateDwell s).rs.dwell = dwell := by
    simp only [dwell, updateDwell, hcur]
    cases hd : r.conditions.dwell with
    | false => rw [if_neg (by simp), if_neg (by simp)]
    | true =>
      rw [if_pos ⟨hrun, rfl⟩, if_pos rfl]
      cases hphase : s.rs.dwell.phase with
      | stopped => rfl
      | armed => cases s.othersHold r.conditions <;> rfl
      | counting => by_cases h : r.dwell * 1000 ≤ s.rs.dwell.elapsed <;> simp [h, ← hphase]
  have hdwell : updateDwell s = { s with rs := { s.rs with dwell := dwell } } := by
    rw [← hvalue]
    obtain ⟨d, hd⟩ := updateDwell_cases s
    rw [hd]
  have hholds : (updateDwell s).conditionsHold r.conditions = true ↔
      s.othersHold r.conditions = true ∧ (r.conditions.dwell = true → dwell.holds = true) := by
    rw [conditionsHold_iff, updateDwell_othersHold, hdwell]
  have hdone : finishStep r s = done := rfl
  clear_value dwell
  refine ⟨fun h => ?_, fun h1 h2 => ?_⟩
  · rw [evaluate_of_open hrun hcur (hholds.not.2 h), hdwell]
  · have h := hholds.2 ⟨h1, h2⟩
    refine ⟨evaluate_of_last hrun hcur h, evaluate_of_starving hrun hcur h,
      fun next rest hlast hq => evaluate_of_next hrun hcur h hlast hq⟩

/-! ### A target taken by BD (R87) -/

/-- The droop over the door-end zones is a function of the used zones, their states and their setpoints (R93). -/
theorem doorDroop_congr {s t : State} (hcl : t.cl = s.cl) (hzm : t.zm = s.zm) (hzc : ∀ z, (t.zoneC z).spi = (s.zoneC z).spi) :
    t.doorDroop = s.doorDroop := by
  have h (z : Zone) : t.zoneDroop z = s.zoneDroop z := by
    simp only [State.zoneDroop, State.used, State.image, State.zoneM, ZoneControl.setpoint, hcl, hzm, hzc]
    rfl
  simp only [State.doorDroop, h]

/-- BD's boat right after a target has been taken, its pulse interval timer apart (R87, R93, R94, R96). -/
def targetTaken (m : BoatPart) (s : State) : Boat := { s.bd with
  move := if s.bd.c = m.target ∧ s.followingError.natAbs ≤ 5 then none else some m
  bdir := if s.bd.c < m.target then true else if m.target < s.bd.c then false else s.bd.bdir
  factor := if s.bd.c < m.target ∧ 0 < m.droop then (droopRow false .full m.droop s.doorDroop).1 else .full
  droopWait := decide (s.bd.c < m.target ∧ 0 < m.droop) && (droopRow false .full m.droop s.doorDroop).2
  droop := if s.bd.c < m.target ∧ 0 < m.droop then some s.doorDroop else none }

/-- A target record has become the outstanding target; the droop and the arrival are still to be tested (R87). -/
def targetSet (m : BoatPart) (s : State) : State := { s with
  bd.move := some m
  bd.bdir := if s.bd.c < m.target then true else if m.target < s.bd.c then false else s.bd.bdir
  bd.droopWait := false
  bd.factor := .full }

theorem takeTarget_bd_eq (m : BoatPart) (s : State) : takeTarget m s =
    { testArrival (evaluateDroop (targetSet m s)) with bd.pulse := (takeTarget m s).bd.pulse } := rfl

section
variable {m : BoatPart} {s : State}

/-- The droop evaluation of an inward move with a droop limit (R93, R94). -/
theorem evaluateDroop_of_limited (hm : s.bd.move = some m) (h : s.rs.run ≠ .held) (hlim : s.bd.c < m.target ∧ 0 < m.droop) :
    evaluateDroop s = { s with bd := { s.bd with
      factor := (droopRow s.bd.droopWait s.bd.factor m.droop s.doorDroop).1
      droopWait := (droopRow s.bd.droopWait s.bd.factor m.droop s.doorDroop).2
      droop := some s.doorDroop } } := by
  simp [evaluateDroop, State.droopLimited, hm, h, hlim]

/-- An outward move and one without a droop limit keep 4/4 and a clear flag (R93). -/
theorem evaluateDroop_of_free (hm : s.bd.move = some m) (h : s.rs.run ≠ .held) (hlim : ¬ (s.bd.c < m.target ∧ 0 < m.droop)) :
    evaluateDroop s = { s with bd := { s.bd with factor := .full, droopWait := false, droop := none } } := by
  simp [evaluateDroop, State.droopLimited, hm, h, hlim]

theorem testArrival_of_arrived (hm : s.bd.move = some m) (ha : s.bd.c = m.target ∧ s.followingError.natAbs ≤ 5) :
    testArrival s = raiseEvent .boatArrived { s with bd := { s.bd with move := none, droopWait := false, pulse := none } } := by
  unfold testArrival State.arrives
  rw [hm]
  exact if_pos (decide_eq_true ha)

theorem testArrival_of_short (hm : s.bd.move = some m) (ha : ¬ (s.bd.c = m.target ∧ s.followingError.natAbs ≤ 5)) :
    testArrival s = s := by
  unfold testArrival State.arrives
  rw [hm]
  exact if_neg fun h => ha (of_decide_eq_true h)

variable (h : s.rs.run ≠ .held)
include h

/-- A target taken (R87): BD as `targetTaken` says, and BOAT-ARRIVED where the boat is there already (R96). -/
theorem takeTarget_whole : takeTarget m s = { s with
    bd := { targetTaken m s with pulse := (takeTarget m s).bd.pulse }, lp.events := (takeTarget m s).lp.events } := by
  suffices hev : ∃ p es, testArrival (evaluateDroop (targetSet m s)) =
      { s with bd := { targetTaken m s with pulse := p }, lp.events := es } by
    obtain ⟨p, es, hev⟩ := hev
    have hes : (takeTarget m s).lp.events = es := congrArg (·.lp.events) hev
    rw [hes, takeTarget_bd_eq, hev]
  unfold targetTaken
  by_cases hd : s.bd.c < m.target ∧ 0 < m.droop
  · have hshort : ¬ (s.bd.c = m.target ∧ s.followingError.natAbs ≤ 5) := fun ha => Nat.ne_of_lt hd.1 ha.1
    rw [evaluateDroop_of_limited (s := targetSet m s) rfl h hd, testArrival_of_short (m := m) (by rfl) (by exact hshort)]
    simp only [if_pos hd, if_neg hshort, decide_eq_true hd, Bool.true_and]
    exact ⟨_, _, rfl⟩
  · rw [evaluateDroop_of_free (s := targetSet m s) rfl h hd]
    simp only [if_neg hd, decide_eq_false hd, Bool.false_and]
    by_cases ha : s.bd.c = m.target ∧ s.followingError.natAbs ≤ 5
    · rw [testArrival_of_arrived (m := m) (by rfl) (by exact ha), if_pos ha]
      exact ⟨_, _, rfl⟩
    · rw [testArrival_of_short (m := m) (by rfl) (by exact ha), if_neg ha]
      exact ⟨_, _, rfl⟩

theorem takeTarget_arrived (ha : s.bd.c = m.target ∧ s.followingError.natAbs ≤ 5) :
    (takeTarget m s).bd.move = none ∧ .boatArrived ∈ (takeTarget m s).lp.events := by
  have hd : ¬ (s.bd.c < m.target ∧ 0 < m.droop) := fun hd => Nat.ne_of_lt hd.1 ha.1
  rw [takeTarget_bd_eq, evaluateDroop_of_free (s := targetSet m s) rfl h hd, testArrival_of_arrived (m := m) (by rfl) (by exact ha)]
  exact ⟨rfl, mem_raiseEvent.2 (.inl rfl)⟩

end

/-! ### Step start (R12) -/

/-- A step start before its boat part is handed over: the record is current, ZC and GC have their parts (R12). -/
def heatAndGasHandedOut (r : StepRecord) (s : State) : State :=
  handOver r.gas takeGas (handOver r.thermal takeThermal (makeCurrent r s))

section
variable {r : StepRecord} {m : BoatPart} {s : State}

theorem heatAndGasHandedOut_run : (heatAndGasHandedOut r s).rs.run = .running := by
  rw [heatAndGasHandedOut, handOver_keeps State.rs _ _ _ takeGas_rs, handOver_keeps State.rs _ _ _ takeThermal_rs]
  rfl

theorem heatAndGasHandedOut_bd : (heatAndGasHandedOut r s).bd = s.bd := by
  rw [heatAndGasHandedOut, handOver_keeps State.bd _ takeGas _ fun _ _ => rfl,
    handOver_keeps State.bd _ takeThermal _ fun _ _ => rfl]
  rfl

theorem heatAndGasHandedOut_doorDroop : (heatAndGasHandedOut r s).doorDroop = s.doorDroop := by
  refine doorDroop_congr ?_ ?_ fun z => ?_
  · rw [heatAndGasHandedOut, handOver_keeps State.cl _ takeGas _ fun _ _ => rfl,
      handOver_keeps State.cl _ takeThermal _ fun _ _ => rfl]
    rfl
  · rw [heatAndGasHandedOut, handOver_keeps State.zm _ takeGas _ fun _ _ => rfl,
      handOver_keeps State.zm _ takeThermal _ fun _ _ => rfl]
    rfl
  · rw [heatAndGasHandedOut, handOver_keeps (fun u => (u.zoneC z).spi) _ takeGas _ fun _ _ => rfl,
      handOver_keeps (fun u => (u.zoneC z).spi) _ takeThermal _ fun _ u => by cases z <;> rfl]
    rfl

theorem heatAndGasHandedOut_followingError : (heatAndGasHandedOut r s).followingError = s.followingError := by
  simp only [State.followingError, heatAndGasHandedOut_bd]

theorem targetTaken_heatAndGasHandedOut : targetTaken m (heatAndGasHandedOut r s) = targetTaken m s := by
  simp only [targetTaken, heatAndGasHandedOut_bd, heatAndGasHandedOut_doorDroop, heatAndGasHandedOut_followingError]

theorem stepHandedOut_of_no_boat (h : r.boat = none) : stepHandedOut r s = heatAndGasHandedOut r s := by
  simp only [stepHandedOut, h, handOver, heatAndGasHandedOut]

section
variable (h : r.boat = some m)
include h

theorem stepHandedOut_of_boat : stepHandedOut r s = takeTarget m (heatAndGasHandedOut r s) := by
  simp only [stepHandedOut, h, handOver, heatAndGasHandedOut]

theorem stepHandedOut_whole : ∃ p es, stepHandedOut r s =
    { heatAndGasHandedOut r s with bd := { targetTaken m s with pulse := p }, lp.events := es } := by
  have hrun : (heatAndGasHandedOut r s).rs.run ≠ .held := by simp [heatAndGasHandedOut_run]
  rw [stepHandedOut_of_boat h, takeTarget_whole hrun, targetTaken_heatAndGasHandedOut]
  exact ⟨_, _, rfl⟩

theorem stepHandedOut_pulse_of_boat :
    (stepHandedOut r s).bd.pulse = if (stepHandedOut r s).pulsing then some 0 else none := by
  rw [stepHandedOut_of_boat h]
  exact takeTarget_pulse m _

theorem stepHandedOut_arrived (ha : s.bd.c = m.target ∧ s.followingError.natAbs ≤ 5) :
    (stepHandedOut r s).bd.move = none ∧ .boatArrived ∈ (stepHandedOut r s).lp.events := by
  have hrun : (heatAndGasHandedOut r s).rs.run ≠ .held := by simp [heatAndGasHandedOut_run]
  rw [stepHandedOut_of_boat h]
  refine takeTarget_arrived hrun ?_
  rw [heatAndGasHandedOut_bd, heatAndGasHandedOut_followingError]
  exact ha

end

theorem startStep_pulsing : (startStep r s).pulsing = (stepHandedOut r s).pulsing := by
  rw [startStep_eq, commit_pulsing]
  rfl

/-- Where the parts handed over leave the pulse interval timer with pulsing, so does the step start (R91). -/
theorem startStep_pulse (h : (stepHandedOut r s).bd.pulse = if (stepHandedOut r s).pulsing then some 0 else none) :
    (startStep r s).bd.pulse = if (startStep r s).pulsing then some 0 else none := by
  have hset : (startStep r s).bd.pulse = if (stepHandedOut r s).pulsing
      then if s.pulsing then (stepHandedOut r s).bd.pulse else some 0
      else if s.pulsing then none else (stepHandedOut r s).bd.pulse := commit_pulse s _
  rw [hset, startStep_pulsing, h]
  split <;> split <;> rfl

theorem startStep_keeps_event {k : EventKind} (h : k ∈ (stepHandedOut r s).lp.events) : k ∈ (startStep r s).lp.events :=
  mem_commit_events s (mem_raiseEvent.2 (.inr h))

end

/-- Settles O34: BD's part is the taking of a target, the other parts are read off, and the reactions come last. -/
theorem stepStartHandsOut : Obligations.StepStartHandsOut := by
  intro r s t arrived
  refine ⟨?_, ?_, ?_, ?_⟩
  · simp only [t, startStep_eq, commit_withoutReactions]
    cases hboat : r.boat with
    | none =>
      rw [stepHandedOut_of_no_boat hboat]
      obtain ⟨label, thermal, gas, boat, conditions, dwell, timeout, last⟩ := r
      cases thermal <;> cases gas <;> rfl
    | some m =>
      have harr : arrived = decide (s.bd.c = m.target ∧ s.followingError.natAbs ≤ 5) := by simp [arrived, hboat]
      obtain ⟨p, es, hwhole⟩ := stepHandedOut_whole (s := s) hboat
      simp only [hwhole, harr, decide_eq_true_eq]
      clear hwhole
      obtain ⟨label, thermal, gas, boat, conditions, dwell, timeout, last⟩ := r
      cases thermal <;> cases gas <;> rfl
  · intro ha
    obtain ⟨m, hboat, harr⟩ := Option.any_eq_true _ _ |>.1 ha
    obtain ⟨hmove, hevent⟩ := stepHandedOut_arrived hboat (of_decide_eq_true harr)
    have hrest : t.motion = .rest := motion_eq_rest_iff.2
      ⟨by simp [t], by simp only [t, startStep_eq, commit_bd_move]; exact hmove⟩
    have hpulsing : t.pulsing = false := by simp [State.pulsing, hrest]
    refine ⟨hrest, ?_, startStep_keeps_event hevent⟩
    rw [startStep_pulse (stepHandedOut_pulse_of_boat hboat), hpulsing]
    rfl
  · intro hsome
    obtain ⟨m, hboat⟩ := Option.isSome_iff_exists.1 hsome
    exact startStep_pulse (stepHandedOut_pulse_of_boat hboat)
  · exact mem_commit_events s (mem_raiseEvent.2 (.inl rfl))

end Sys2Proof.Machine
end

section
/-!
PROOF. The requests of a run: RUN-START, RUN-HOLD, RUN-RESUME, QUEUE-CLEAR, RUN-ABORT and BOAT-MOVE, with the changes of the run state
behind them (R10, R11, R17, R19, R21, R23, R98).
-/
namespace Sys2Proof.Machine

/-- From the release on a request does and answers what its owner decides at the end of the frame (R174, R175). -/
theorem exec_of_serve {r : Request} {body : List Byte} {s t : State} {code : ReplyCode} {reply : List Byte} (hp : s.portReady)
    (hr : s.released = true) (ho : r = .faultClear ∨ r = .runResume → s.rs.abortOrdered = false) (hb : body.length ≤ 44)
    (hl : r.fixedLength = none ∨ r.fixedLength = some body.length) (hserve : serveOwner r body s.heard = ⟨t, code, reply⟩) :
    exec (r.command body) s = .next (sendReply ⟨r.kind, code, reply⟩ t) := by
  rw [exec_command_owner r body s hp ho hb hr hl, hserve]

/-! ### RUN-START -/

theorem gates_iff {k : FaultKind} :
    k.gates = true ↔ k ∉ [FaultKind.channelFailed, .addressClash, .linkMute, .curtailUnconfirmed, .abortIncomplete, .configDefault] := by
  cases k <;> decide

theorem faultPending_iff {f : FaultLog} : f.pending = true ↔
    ∃ k : FaultKind, (f.first.map (·.kind) = some k ∨ f.next.map (·.kind) = some k ∨ k ∈ f.summary) ∧ k.gates = true := by
  simp only [FaultLog.pending, Bool.or_eq_true, Option.any_eq_true, List.any_eq_true, Option.map_eq_some_iff]
  constructor
  · rintro ((⟨r, hr, hg⟩ | ⟨r, hr, hg⟩) | ⟨k, hk, hg⟩)
    · exact ⟨r.kind, .inl ⟨r, hr, rfl⟩, hg⟩
    · exact ⟨r.kind, .inr (.inl ⟨r, hr, rfl⟩), hg⟩
    · exact ⟨k, .inr (.inr hk), hg⟩
  · rintro ⟨k, ⟨r, hr, rfl⟩ | ⟨r, hr, rfl⟩ | hk, hg⟩
    · exact .inl (.inl ⟨r, hr, hg⟩)
    · exact .inl (.inr ⟨r, hr, hg⟩)
    · exact .inr ⟨k, hk, hg⟩

section
variable {s : State}

theorem serveRunStart_of_ne_idle (h : s.rs.run ≠ .idle) : serveRunStart s = answer .state s := by
  rw [serveRunStart, if_pos h]

section
variable (h : s.rs.run = .idle)
include h

theorem serveRunStart_of_pending (hf : s.fl.pending = true) : serveRunStart s = answer .faultPending s := by
  rw [serveRunStart, if_neg (not_not.2 h), if_pos hf]

variable (hf : s.fl.pending = false)
include hf

theorem serveRunStart_of_empty (hq : s.rs.queue = []) : serveRunStart s = answer .empty s := by
  rw [serveRunStart, if_neg (not_not.2 h), if_neg (by simp [hf]), if_pos (by simp [hq])]

theorem serveRunStart_of_queue {r : StepRecord} {rest : List StepRecord} (hq : s.rs.queue = r :: rest) :
    serveRunStart s = answer .ok (stepStart r { s with rs := { s.rs with
      queue := rest
      clock := 0, clockPhase := .running 1000, done := 0, discarded := 0, lastLabel := none
      thermal := none, gas := none } }) := by
  rw [serveRunStart, if_neg (not_not.2 h), if_neg (by simp [hf]), if_neg (by simp [hq])]
  exact congrArg (answer .ok) (startHead_of_queue hq)

end
end

/-- Settles O33: each refusal, and the run, is one equation of `serveRunStart`, and the command answers what it decides. -/
theorem runStartChecks : Obligations.RunStartChecks := by
  refine ⟨fun f => by simp only [faultPending_iff, gates_iff], fun s hp => ⟨fun hr => ?_, fun hr => ?_⟩⟩
  · exact exec_command_unreleased .runStart [] s hp (by simp) (by simp) hr rfl
  have hexec {code : ReplyCode} {t : State} (hserve : serveRunStart s.heard = answer code t) :=
    exec_of_serve (r := .runStart) (body := []) hp hr (by simp) (by simp) (.inr rfl) hserve
  refine ⟨fun h => hexec (serveRunStart_of_ne_idle h), fun h => ?_⟩
  refine ⟨fun hf => hexec (serveRunStart_of_pending h hf), fun hf => ?_⟩
  exact ⟨fun hq => hexec (serveRunStart_of_empty h hf hq), fun r rest hq => hexec (serveRunStart_of_queue (s := s.heard) h hf hq)⟩

/-! ### RUN-HOLD, RUN-RESUME, QUEUE-CLEAR -/

/-- Where neither an input of the shares nor an applied flow has changed, only BD has something to follow (R88, R91). -/
theorem commit_eq_boatReact {s0 s1 : State} (hs : s1.shareInputs = s0.shareInputs) (hf : ∀ l, s1.appliedFlow l = s0.appliedFlow l) :
    commit s0 s1 = boatReact s0 s1 := by
  have hshare : shareReact s0 (boatReact s0 s1) = boatReact s0 s1 := by
    unfold shareReact
    rw [boatReact_shareInputs, if_pos hs.symm]
  have hflow (l : GasLine) : s0.appliedFlow l = (boatReact s0 s1).appliedFlow l :=
    (hf l).symm.trans (appliedFlow_congr (by simp) (by simp) (by simp [State.line]) (by simp) (by simp) (by simp)).symm
  rw [commit, hshare]
  generalize boatReact s0 s1 = u at hflow
  simp [flowReact, hflow, GasLine.all]

section
variable {s : State}

/-- An entry to HELD from RUNNING or STARVED, whole: it changes no input of the shares and no flow, and stops the pulses (R19, R91). -/
theorem enterHeld_eq (h : s.rs.run = .running ∨ s.rs.run = .starved) : enterHeld s = { s with
    rs := { s.rs with run := .held, prior := some (if s.rs.run = RunState.running then PriorState.running else PriorState.starved) }
    bd := { s.bd with pulse := if s.pulsing then none else s.bd.pulse }
    lp := { s.lp with events := addEvent .held s.lp.events } } := by
  have hprior : priorOf s.rs.run = some (if s.rs.run = RunState.running then PriorState.running else PriorState.starved) := by
    rcases h with h | h <;> rw [h] <;> rfl
  have hshare : (raiseEvent .held { s with rs.run := .held, rs.prior := priorOf s.rs.run }).shareInputs = s.shareInputs := by
    have hrank : (raiseEvent .held { s with rs.run := .held, rs.prior := priorOf s.rs.run }).rank = s.rank := by
      show (if s.released then if s.image.pMouth ≤ s.bd.e then 2 else 1 else 0) = s.rank
      rcases h with h | h <;> simp [State.rank, h]
    simp only [State.shareInputs, hrank]
    rfl
  rw [enterHeld, commit_eq_boatReact hshare fun l => rfl, hprior]
  have hpulsing : (raiseEvent .held { s with
      rs.run := .held
      rs.prior := some (if s.rs.run = RunState.running then PriorState.running else PriorState.starved) }).pulsing = false := by
    simp [State.pulsing, State.motion]
  have hmotion : (raiseEvent .held { s with
      rs.run := .held
      rs.prior := some (if s.rs.run = RunState.running then PriorState.running else PriorState.starved) }).motion = .held := if_pos rfl
  unfold boatReact
  rw [hpulsing, hmotion, if_neg (by simp)]
  cases s.pulsing <;> rfl

theorem serveRunHold_of_going (h : s.rs.run = .running ∨ s.rs.run = .starved) : serveRunHold s = answer .ok (enterHeld s) := by
  rcases h with h | h <;> simp [serveRunHold, h]

theorem serveRunHold_of_held (h : s.rs.run = .held) : serveRunHold s = answer .ok s := by simp [serveRunHold, h]

theorem serveRunHold_of_ended (h : s.rs.run = .idle ∨ s.rs.run = .aborting) : serveRunHold s = answer .state s := by
  rcases h with h | h <;> simp [serveRunHold, h]

theorem serveQueueClear_of_waiting (h : s.rs.run = .idle ∨ s.rs.run = .held) :
    serveQueueClear s = answer .ok { s with rs.queue := [] } := by
  rcases h with h | h <;> simp [serveQueueClear, h]

theorem serveQueueClear_of_busy (h : s.rs.run ≠ .idle) (h' : s.rs.run ≠ .held) : serveQueueClear s = answer .state s := by
  cases hrun : s.rs.run with
  | idle => exact absurd hrun h
  | held => exact absurd hrun h'
  | _ => simp [serveQueueClear, hrun]

theorem restartTimeout_of_current {r : StepRecord} (h : s.rs.current = some r) :
    restartTimeout s = { s with rs.stepTimer := timeoutTimer r } := by
  rw [restartTimeout, h]

/-! #### The end of HELD -/

/-- The end of HELD, with what follows it, up to the evaluation of the step (R21, R98). -/
theorem leaveHeld_withoutReactions (run : RunState) : (leaveHeld run s).withoutReactions = { s with
    rs := { s.rs with run := run, prior := none }
    bd := { s.bd with droopWait := false, factor := .full } }.withoutReactions := commit_withoutReactions s _

theorem pulsing_of_held (h : s.rs.run = .held) : s.pulsing = false := by simp [State.pulsing, State.motion, h]

/-- Pulsing that becomes allowed at the end of HELD begins with the pulse interval timer at 0 (R91). -/
theorem leaveHeld_pulse (run : RunState) (h : s.rs.run = .held) :
    (leaveHeld run s).bd.pulse = if (leaveHeld run s).pulsing then some 0 else s.bd.pulse := by
  rw [leaveHeld, commit_pulse, commit_pulsing, pulsing_of_held h]
  rfl

section
variable (h : s.rs.run = .held)
include h

theorem serveRunResume_running (hprior : s.rs.prior = some .running) :
    serveRunResume s = answer .ok (evaluate (restartTimeout (leaveHeld .running s))) := by
  simp [serveRunResume, h, hprior]

variable (hprior : s.rs.prior = some .starved)
include hprior

theorem serveRunResume_starved (hq : s.rs.queue = []) : serveRunResume s = answer .ok (leaveHeld .starved s) := by
  simp [serveRunResume, h, hprior, hq]

theorem serveRunResume_next {r : StepRecord} {rest : List StepRecord} (hq : s.rs.queue = r :: rest) :
    serveRunResume s = answer .ok (stepStart r { leaveHeld .running s with rs.queue := rest }) := by
  have hq' : (leaveHeld .running s).rs.queue = r :: rest := by simp [leaveHeld, hq]
  simp [serveRunResume, h, hprior, hq, startHead_of_queue hq']

end
end

/-- Settles O36: each case is one equation of its owner, and the end of HELD is one action with its reactions. -/
theorem holdResumeClear : Obligations.HoldResumeClear := by
  intro s hp hr
  have hexec {r : Request} (ho : r = .faultClear ∨ r = .runResume → s.rs.abortOrdered = false) (hl : r.fixedLength = some 0)
      {code : ReplyCode} {t : State} (hserve : serveOwner r [] s.heard = answer code t) :=
    exec_of_serve (body := []) hp hr ho (Nat.zero_le _) (.inr hl) hserve
  refine ⟨fun h => ?_, fun h => ?_, fun h => ?_, fun ho h => ?_, fun r ho h hprior hcur => ?_, fun r rest ho h hprior hq => ?_,
    fun ho h hprior hq => ?_, fun h => ?_, fun h h' => ?_⟩
  · refine (hexec (r := .runHold) (by simp) rfl (serveRunHold_of_going (s := s.heard) h)).trans ?_
    rw [enterHeld_eq (s := s.heard) h]
    rfl
  · exact hexec (r := .runHold) (by simp) rfl (serveRunHold_of_held (s := s.heard) h)
  · exact hexec (r := .runHold) (by simp) rfl (serveRunHold_of_ended (s := s.heard) h)
  · exact hexec (r := .runResume) (fun _ => ho) rfl (serveRunResume_of_ne_held (s := s.heard) h)
  · have hcur' : (leaveHeld .running s.heard).rs.current = some r := by simpa [leaveHeld, State.heard] using hcur
    refine ⟨{ leaveHeld .running s.heard with rs.stepTimer := timeoutTimer r }, ?_,
      congrArg (fun u : State => { u with rs.stepTimer := timeoutTimer r }) (leaveHeld_withoutReactions (s := s.heard) .running),
      leaveHeld_pulse (s := s.heard) .running h⟩
    rw [← restartTimeout_of_current hcur']
    exact hexec (r := .runResume) (fun _ => ho) rfl (serveRunResume_running (s := s.heard) h hprior)
  · exact ⟨{ leaveHeld .running s.heard with rs.queue := rest },
      hexec (r := .runResume) (fun _ => ho) rfl (serveRunResume_next (s := s.heard) h hprior hq),
      congrArg (fun u : State => { u with rs.queue := rest }) (leaveHeld_withoutReactions (s := s.heard) .running),
      leaveHeld_pulse (s := s.heard) .running h⟩
  · exact ⟨leaveHeld .starved s.heard,
      hexec (r := .runResume) (fun _ => ho) rfl (serveRunResume_starved (s := s.heard) h hprior hq),
      leaveHeld_withoutReactions _, leaveHeld_pulse (s := s.heard) _ h⟩
  · exact hexec (r := .queueClear) (by simp) rfl (serveQueueClear_of_waiting (s := s.heard) h)
  · exact hexec (r := .queueClear) (by simp) rfl (serveQueueClear_of_busy (s := s.heard) h h')

/-! ### RUN-ABORT and the entries to ABORTING and IDLE -/

section
variable {s : State}

theorem serveRunAbort_of_ended (h : s.rs.run = .idle ∨ s.rs.run = .aborting) : serveRunAbort s = answer .state s := by
  rcases h with h | h <;> simp [serveRunAbort, h]

theorem serveRunAbort_of_going (h : s.rs.run ≠ .idle) (h' : s.rs.run ≠ .aborting) :
    serveRunAbort s = answer .ok (enterAborting s) := by
  cases hrun : s.rs.run with
  | idle => exact absurd hrun h
  | aborting => exact absurd hrun h'
  | _ => simp [serveRunAbort, hrun]

/-- The accumulator starts at 0, so an entry to ABORTING ends the abort at once exactly where the abort purge asks for nothing
(R24, R82). -/
theorem enterAborting_eq : enterAborting s =
    if s.image.abortPurgeRequirement * s.image.tubeVolume * 120 = 0 then enterIdle (beginAbort s) else beginAbort s := by
  have hmet : (beginAbort s).abortPurgeMet = decide (s.image.abortPurgeRequirement * s.image.tubeVolume * 120 = 0) := by
    simp [State.abortPurgeMet, State.purgeUnits]
  have hrun : (beginAbort s).rs.run = .aborting := by simp
  rw [enterAborting, testAbortPurge, hmet, beginAbort_abortPurge, if_pos hrun]
  simp

/-- A boat stopped where it stands is at rest and drives no pulse (R88, R91, R99). -/
theorem beginAbort_motion : (beginAbort s).motion = .rest :=
  motion_eq_rest_iff.2 ⟨by simp, by rw [beginAbort, commit_bd_move]; rfl⟩

theorem beginAbort_pulse : (beginAbort s).bd.pulse = none := by
  have hpulsing : (beginAbort s).pulsing = false := by simp [State.pulsing, beginAbort_motion]
  rw [beginAbort, commit_pulse, ← commit_pulsing s, if_neg (by rw [← beginAbort, hpulsing]; simp)]
  split <;> rfl

end

/-- Settles O37: RUN-ABORT by its owner's equations, the entries by their one action before its reactions. -/
theorem abortAndIdleEntries : Obligations.AbortAndIdleEntries := by
  refine ⟨fun s hp hr => ?_, fun s => ⟨?_, beginAbort_motion, beginAbort_pulse⟩, fun s => ⟨?_, ?_⟩⟩
  · have hexec {code : ReplyCode} {t : State} (hserve : serveRunAbort s.heard = answer code t) :=
      exec_of_serve (r := .runAbort) (body := []) hp hr (by simp) (by simp) (.inr rfl) hserve
    refine ⟨fun h => hexec (serveRunAbort_of_ended (s := s.heard) h), fun h h' => ?_⟩
    have hgoing := hexec (serveRunAbort_of_going (s := s.heard) h h')
    rwa [enterAborting_eq] at hgoing
  · rw [beginAbort, commit_withoutReactions]
    rfl
  · have hbleed : (⟨s.image.bleedFloor, s.image.bleedFloor⟩ : Demand) =
        ⟨min s.image.bleedFloor s.image.bleedFloor, s.image.bleedFloor⟩ := by rw [Nat.min_self]
    rw [enterIdle, commit_withoutReactions, hbleed]
    rfl
  · exact mem_commit_events _ (mem_raiseEvent.2 (.inl rfl))

/-! ### BOAT-MOVE -/

theorem clampNat_eq {lo hi : Nat} (h : lo ≤ hi) (x : Nat) : clampNat lo hi x = min hi (max lo x) := by
  unfold clampNat
  split
  · omega
  · split <;> omega

theorem storeBoat_move (img : Image) (target speed : Nat) :
    storeBoat img ⟨target, speed, 0⟩ = ⟨min img.pIn target, min 600 (max 10 speed), 0⟩ := by
  simp [storeBoat, clampNat_eq, min_comm]

theorem serveBoatMove_of_idle {body : List Byte} {s : State} (h : s.rs.run = .idle) {m : BoatPart}
    (hm : storeBoat s.image ⟨at2 body 0, at2 body 2, 0⟩ = m) : serveBoatMove body s =
      answer (if m = ⟨at2 body 0, at2 body 2, 0⟩ then .ok else .okClamped) (commit s (takeTarget m s)) := by
  rw [serveBoatMove, if_neg (not_not.2 h)]
  simp only [hm, accepted, decide_eq_true_eq, ite_not]

/-- Where a target is taken and nothing else changes, the reactions leave the pulse interval timer as it started it (R87, R91). -/
theorem commit_takeTarget_pulse (m : BoatPart) (s : State) : (commit s (takeTarget m s)).bd.pulse =
    if (commit s (takeTarget m s)).pulsing then some 0 else none := by
  rw [commit_pulse, commit_pulsing, takeTarget_pulse]
  split <;> split <;> rfl

/-- Settles O38: the command commits the taking of the clamped target. -/
theorem boatMoveTaken : Obligations.BoatMoveTaken := by
  intro s body hp hr hlen
  have hexec {code : ReplyCode} {t : State} (hserve : serveBoatMove body s.heard = answer code t) :=
    exec_of_serve (r := .boatMove) (body := body) hp hr (by simp) (by omega) (.inr (by rw [hlen]; rfl)) hserve
  refine ⟨fun h => hexec (t := s.heard) (by rw [serveBoatMove]; exact if_pos h), fun h => ?_⟩
  intro m code there
  have hm : storeBoat s.heard.image ⟨at2 body 0, at2 body 2, 0⟩ = m := storeBoat_move _ _ _
  have hcode : (if m = ⟨at2 body 0, at2 body 2, 0⟩ then .ok else .okClamped) = code := by
    have hiff : m = ⟨at2 body 0, at2 body 2, 0⟩ ↔ m.target = at2 body 0 ∧ m.speed = at2 body 2 := by simp [m]
    simp only [hiff, code]
  have hserve := hexec (serveBoatMove_of_idle (s := s.heard) h hm)
  rw [hcode] at hserve
  have hdroop : m.droop = 0 := rfl
  clear_value m code
  have hrun : s.heard.rs.run ≠ .held := by rw [show s.heard.rs.run = .idle from h]; decide
  refine ⟨_, hserve, ?_, fun hthere => ?_, ?_⟩
  · have hfree : ¬ (s.heard.bd.c < m.target ∧ 0 < m.droop) := by simp [hdroop]
    have hwhole : (sendReply ⟨0x30, code, []⟩ (commit s.heard (takeTarget m s.heard))).withoutReactions =
        (sendReply ⟨0x30, code, []⟩ (takeTarget m s.heard)).withoutReactions :=
      congrArg (sendReply ⟨0x30, code, []⟩) (commit_withoutReactions s.heard (takeTarget m s.heard))
    refine hwhole.trans ?_
    rw [takeTarget_whole hrun]
    simp only [targetTaken, if_neg hfree, decide_eq_false hfree, Bool.false_and, there, decide_eq_true_eq]
    rfl
  · obtain ⟨hmove, hevent⟩ := takeTarget_arrived hrun (of_decide_eq_true hthere)
    refine ⟨mem_commit_events _ hevent, ?_⟩
    show (commit s.heard (takeTarget m s.heard)).motion = .rest
    rw [commit_motion]
    exact motion_eq_rest_iff.2 ⟨by rw [takeTarget_rs]; exact hrun, hmove⟩
  · exact commit_takeTarget_pulse m s.heard

end Sys2Proof.Machine
end

section
/-!
PROOF. Requests turned away by LP (R175), FAULT-CLEAR (R165, R166), and the run's timers at their ends (R15, R22, R24, R25).
-/
namespace Sys2Proof.Machine

/-! ### LP's own checks -/

theorem readRequest_eq_none {kind : Byte} (h : kind ∉ requestKinds) : readRequest kind = none := by
  unfold readRequest
  rw [List.find?_eq_none]
  intro r _ hkind
  rw [decide_eq_true_eq] at hkind
  exact h (by rw [← hkind]; cases r <;> decide)

theorem serveRequest_unknown {kind : Byte} (h : kind ∉ requestKinds) (body : List Byte) (s : State) :
    serveRequest kind body s = answer .badFormat s := by
  rw [serveRequest, readRequest_eq_none h]

/-- A request that would be served is turned away where its fixed length does not agree (R175). -/
theorem serveRequest_wrong_length {r : Request} {body : List Byte} {n : Nat} {s : State} (h : s.released = true ∨ r.early = true)
    (hl : r.fixedLength = some n) (hne : body.length ≠ n) : serveRequest r.kind body s = answer .badFormat s := by
  have hopen : ¬ (!s.released && !r.early) = true := by rcases h with h | h <;> simp [h]
  rw [serveRequest, readRequest_kind]
  dsimp only
  rw [if_neg hopen, if_pos (by simpa [hl] using hne.symm)]

/-- Settles O24: each check is one equation of `serveRequest`, and the reply is all that a request turned away leaves. -/
theorem requestsTurnedAway : Obligations.RequestsTurnedAway := by
  refine fun s hp ho => ⟨fun kind body hwf => ?_, fun r body hr hb hlate => ?_, fun r body n hopen hb hl hne => ?_⟩
  · obtain ⟨hfits, hkind⟩ : bodyFits body = true ∧ kind ∉ requestKinds := by simpa [Instr.wf] using hwf
    have hexec : exec (.unknownKindRequest kind body) s = .next (receiveChars (requestChars kind body) s) := rfl
    rw [hexec, receiveChars_ready kind body s (by simpa [bodyFits] using hfits) hp, serveEntry, serveRequest_unknown hkind]
    rfl
  · exact exec_command_unreleased r body s hp (fun _ => ho) hb hr (by cases r <;> simp_all [Request.early])
  · have hserved : s.released = true ∨ r.early = true := hopen.imp_right fun h => by cases r <;> simp_all [Request.early]
    rw [exec_command_ready r body s hp (fun _ => ho) hb, serveEntry, serveRequest_wrong_length (s := s.heard) hserved hl hne]
    rfl

/-! ### FAULT-CLEAR -/

/-- A zone latched in OVERTEMP with no valid channel has no measured value to keep (R31, R39). -/
theorem releaseOvertemp_eq (m : ZoneMeasurement) : releaseOvertemp m =
    if m.state ≠ ZoneState.overtemp then m
    else if m.profile.valid then { m with state := .normal }
    else if m.spike.valid then { m with state := .degraded }
    else { m with state := .lostHold, lastMeasured := none, holdTimer := .running 10000 } := by
  unfold releaseOvertemp
  split
  · rfl
  · next hlatched =>
    rw [not_not] at hlatched
    split
    · rfl
    · next hprofile =>
      split
      · rfl
      · next hspike => simp [ZoneMeasurement.measured, hlatched, hprofile, hspike, Config.holdMs]

theorem serveFaultClear_of_aborting {s : State} (h : s.rs.run = .aborting) : serveFaultClear s = answer .state s := by
  rw [serveFaultClear, if_pos h]

theorem serveFaultClear_of_ne_aborting {s : State} (h : s.rs.run ≠ .aborting) : serveFaultClear s = answer .ok { s with
    fl := FaultLog.reset, zm := { s.zm with zones := PerZone.build fun z => releaseOvertemp (s.zoneM z) } } := by
  rw [serveFaultClear, if_neg h]

/-- A FAULT-CLEAR that meets a ready port: what its owner decides and, where an order waits, RS taking it after (R166, log 35). -/
theorem exec_faultClear_of_serve {s t : State} {code : ReplyCode} (hp : s.portReady) (hr : s.released = true)
    (hserve : serveFaultClear s.heard = answer code t) : exec (.faultClear []) s =
      .next (if s.rs.abortOrdered then takeWaitingOrder (sendReply ⟨0x10, code, []⟩ t) else sendReply ⟨0x10, code, []⟩ t) := by
  have hrequest : receiveRequest .faultClear [] s = sendReply ⟨0x10, code, []⟩ t := by
    have hframe : receiveRequest .faultClear [] s = serveEntry (.request Request.faultClear.kind []) s.heard :=
      receiveChars_ready _ [] s (by simp) hp
    rw [hframe, serveEntry, serveRequest_released .faultClear [] s.heard hr (.inr rfl)]
    exact congrArg (fun a : Served => sendReply ⟨0x10, a.code, a.body⟩ a.state) hserve
  show Host.Outcome.next (beforeOrder (receiveRequest .faultClear []) s) = _
  rw [beforeOrder, hrequest]

theorem takeWaitingOrder_of_waiting {s : State} (h : s.rs.abortOrdered = true) :
    takeWaitingOrder s = takeAbortOrder { s with rs.abortOrdered := false } := by
  rw [takeWaitingOrder, if_pos h]

theorem takeAbortOrder_of_abortable {s : State} (h : s.rs.run = .running ∨ s.rs.run = .starved ∨ s.rs.run = .held) :
    takeAbortOrder s = enterAborting s := if_pos (by rcases h with h | h | h <;> rw [h] <;> rfl)

theorem takeAbortOrder_of_ended {s : State} (h : s.rs.run = .idle ∨ s.rs.run = .aborting) : takeAbortOrder s = s :=
  if_neg (by rcases h with h | h <;> rw [h] <;> decide)

/-- Settles O40: the clear is one equation of its owner, and an order it has overtaken meets the cleared state. -/
theorem faultClearReleases : Obligations.FaultClearReleases := by
  intro s hp hr cleared
  have hcleared : cleared = { s with
      rs := { s.rs with abortOrdered := false }, fl := FaultLog.reset
      zm := { s.zm with zones := PerZone.build fun z => releaseOvertemp (s.zoneM z) } } := by
    simp only [cleared, releaseOvertemp_eq]
    rfl
  rw [hcleared]
  clear_value cleared
  have hnone (h : s.rs.abortOrdered = false) : { s.rs with abortOrdered := false } = s.rs := by rw [← h]
  refine ⟨fun h => ?_, fun h => ?_, fun h ho => ?_⟩
  · rw [exec_faultClear_of_serve hp hr (serveFaultClear_of_aborting (s := s.heard) h)]
    cases ho : s.rs.abortOrdered with
    | false => rw [hnone ho]; rfl
    | true => rw [if_pos rfl, takeWaitingOrder_of_waiting (by exact ho), takeAbortOrder_of_ended (by exact .inr h)]; rfl
  · have hne : s.heard.rs.run ≠ .aborting := h.elim (fun h => by rw [show s.heard.rs.run = .idle from h]; decide) (·.1)
    rw [exec_faultClear_of_serve hp hr (serveFaultClear_of_ne_aborting hne)]
    cases ho : s.rs.abortOrdered with
    | false => rw [hnone ho]; rfl
    | true =>
      have hidle : s.rs.run = .idle := h.elim id fun h => by rw [h.2] at ho; cases ho
      rw [if_pos rfl, takeWaitingOrder_of_waiting (by exact ho), takeAbortOrder_of_ended (by exact .inl hidle)]
      rfl
  · have hne : s.heard.rs.run ≠ .aborting := by rcases h with h | h | h <;> rw [show s.heard.rs.run = _ from h] <;> decide
    rw [exec_faultClear_of_serve hp hr (serveFaultClear_of_ne_aborting hne), if_pos ho,
      takeWaitingOrder_of_waiting (by exact ho), takeAbortOrder_of_abortable (by exact h)]
    rfl

/-! ### The run's timers -/

/-- A fault of note class has no run effect (R161). -/
theorem reportFault_of_note (k : FaultKind) (subject : FaultSubject) (value : FaultValue) (s : State)
    (h : faultClass k subject = .note) : reportFault k subject value s = takeFault k subject value s := by
  simp only [reportFault, reportFaultMeeting, h]

/-- A fault of hold class in RUNNING or STARVED holds the run (R161). -/
theorem reportFault_of_hold (k : FaultKind) (subject : FaultSubject) (value : FaultValue) (s : State)
    (h : faultClass k subject = .hold) (hrun : s.rs.run = .running ∨ s.rs.run = .starved) :
    reportFault k subject value s = enterHeld (takeFault k subject value s) := by
  rcases hrun with hrun | hrun <;> simp only [reportFault, reportFaultMeeting, h, hrun]

theorem exec_stepTimeoutExpiry {s : State} {r : StepRecord} {n : Nat} (hrun : s.rs.run = .running) (hcur : s.rs.current = some r)
    (htimer : s.rs.stepTimer = .running n) : exec .stepTimeoutExpiry s =
      .next (enterHeld (takeFault .stepTimeout .none (.number r.timeout) { s with rs.stepTimer := .expired })) := by
  show Host.Outcome.next _ = _
  rw [hcur]
  dsimp only
  rw [if_pos ⟨hrun, by rw [htimer]; rfl⟩, reportFault_of_hold _ _ _ _ rfl (.inl (by exact hrun))]

/-- Settles O41: a running timer at its end is the one case of its command's meaning. -/
theorem runTimersExpire : Obligations.RunTimersExpire := by
  intro s
  refine ⟨fun r hrun hcur hdwell hphase hholds ho => ?_, fun r n hrun hcur htimer => ?_, fun n hrun htimer => ?_, fun hrun => ?_,
    fun hrun => ⟨fun ho => ?_, ?_, ?_, ?_⟩⟩
  · have hpending : s.dwellPending = some r.dwell := by simp [State.dwellPending, hrun, hcur, hdwell, hphase, hholds]
    show Host.Outcome.next (beforeOrder dwellExpires s) = _
    rw [beforeOrder_of_none _ ho, dwellExpires, hpending]
  · refine ⟨_, exec_stepTimeoutExpiry hrun hcur htimer, ?_, mem_commit_events _ (mem_raiseEvent.2 (.inl rfl)),
      mem_commit_events _ (mem_raiseEvent.2 (.inr (mem_raiseEvent.2 (.inl rfl))))⟩
    rw [enterHeld, commit_withoutReactions]
    simp [takeFault, formRecord, faultClass, hrun, priorOf]
    rfl
  · have hexec : exec .abortTimeout s = .next (enterIdle (reportFault .abortIncomplete .none (.number s.gc.acc) s)) :=
      congrArg Host.Outcome.next (if_pos ⟨hrun, by rw [htimer]; rfl⟩)
    rw [hexec, reportFault_of_note _ _ _ _ rfl, takeFault, formRecord, if_neg (by simp [hrun]), if_neg (by simp [hrun])]
    rfl
  · exact congrArg _ (if_neg hrun)
  · have hpending : s.dwellPending = none := by
      unfold State.dwellPending
      split
      · exact if_neg (by simp [hrun])
      · rfl
    show Host.Outcome.next (beforeOrder dwellExpires s) = _
    rw [beforeOrder_of_none _ ho, dwellExpires, hpending]
  · refine congrArg Host.Outcome.next ?_
    split
    · exact if_neg (by simp [hrun])
    · rfl
  · exact congrArg _ (if_neg (by simp [hrun]))
  · exact congrArg _ (if_pos hrun)

end Sys2Proof.Machine
end

section
/-!
PROOF. A fault whole (R157 to R162), and an abort order that waits for a command (log 35): the command runs as without it, so
whether an order waits can be set before the command or after it. The same holds of what LP's receiver holds.
-/
namespace Sys2Proof.Machine

/-! ### What the actions of the blocks leave aside -/

/-- Whether an abort order waits, and what LP's receiver holds (R170, log 35): nothing that a block does on a command's behalf reads or
sets either. -/
structure Aside where
  order : Bool
  rx : LpReceiver
  gap : Nat

/-- The state with these in their places. -/
def setAside (b : Aside) (s : State) : State :=
  { s with rs.abortOrdered := b.order, lp.rx := b.rx, lp.gap := b.gap }

/-- An action that neither reads nor sets what is left aside. -/
def AsideFree (f : State → State) : Prop := ∀ b s, f (setAside b s) = setAside b (f s)

theorem AsideFree.comp {f g : State → State} (hf : AsideFree f) (hg : AsideFree g) : AsideFree fun s => f (g s) :=
  fun b s => (congrArg f (hg b s)).trans (hf b (g s))

theorem AsideFree.ite {p : State → Prop} [DecidablePred p] {f g : State → State} (hp : ∀ b s, p (setAside b s) ↔ p s)
    (hf : AsideFree f) (hg : AsideFree g) : AsideFree fun s => if p s then f s else g s := by
  intro b s
  by_cases h : p s
  · simp only [if_pos h, if_pos ((hp b s).2 h), hf b s]
  · simp only [if_neg h, if_neg (mt (hp b s).1 h), hg b s]

theorem ite_setAside {c c' : Prop} [Decidable c] [Decidable c'] (h : c' ↔ c) (b : Aside) (x y : State) :
    (if c' then setAside b x else setAside b y) = setAside b (if c then x else y) := by
  by_cases hc : c
  · rw [if_pos hc, if_pos (h.2 hc)]
  · rw [if_neg hc, if_neg (mt h.1 hc)]

theorem raiseCheck_asideFree : AsideFree raiseCheck := fun b s =>
  ite_setAside (c := s.bu.heldHeater < s.computedGrant .heater ∨ s.bu.heldPurge < s.computedGrant .purge) Iff.rfl b
    { s with bl.announceSlot := true } s

theorem shareReact_setAside (b : Aside) (s0 s1 : State) :
    shareReact (setAside b s0) (setAside b s1) = setAside b (shareReact s0 s1) := by
  have hlower : raiseCheck (lowerGrants (setAside b s1)) = setAside b (raiseCheck (lowerGrants s1)) :=
    raiseCheck_asideFree b (lowerGrants s1)
  unfold shareReact
  rw [hlower]
  exact ite_setAside Iff.rfl b _ _

theorem boatReact_setAside (b : Aside) (s0 s1 : State) :
    boatReact (setAside b s0) (setAside b s1) = setAside b (boatReact s0 s1) := by
  have hgated : (if (setAside b s0).motion ≠ .gated ∧ (setAside b s1).motion = .gated then raiseEvent .boatGated (setAside b s1)
      else setAside b s1) = setAside b (if s0.motion ≠ .gated ∧ s1.motion = .gated then raiseEvent .boatGated s1 else s1) :=
    ite_setAside Iff.rfl b (raiseEvent .boatGated s1) s1
  have h0 : (setAside b s0).pulsing = s0.pulsing := rfl
  have h1 : (setAside b s1).pulsing = s1.pulsing := rfl
  unfold boatReact
  rw [hgated, h0, h1]
  cases s0.pulsing <;> cases s1.pulsing <;> rfl

/-- The reactions to an action that leaves a waiting order alone leave it alone. -/
theorem commit_setAside (b : Aside) (s0 s1 : State) : commit (setAside b s0) (setAside b s1) = setAside b (commit s0 s1) := by
  rw [commit, boatReact_setAside, shareReact_setAside]
  rfl

theorem AsideFree.commit {f : State → State} (hf : AsideFree f) : AsideFree fun s => commit s (f s) := fun b s =>
  (congrArg (Machine.commit (setAside b s)) (hf b s)).trans (commit_setAside b s (f s))

/-! ### The actions of a run -/

theorem enterHeld_asideFree : AsideFree enterHeld :=
  .commit (f := fun s => raiseEvent .held { s with rs.run := .held, rs.prior := priorOf s.rs.run }) fun _ _ => rfl

theorem enterIdle_asideFree : AsideFree enterIdle :=
  .commit (f := fun s => raiseEvent .runEnded (takeIdleFlows (takeIdleSource (stopStepTimers { s with
    rs.run := .idle, rs.prior := none, rs.current := none, rs.thermal := none, rs.gas := none, rs.abortTimer := .stopped
    rs.clockPhase := .stopped, rs.labelInForce := none })))) fun _ _ => rfl

theorem beginAbort_asideFree : AsideFree beginAbort :=
  .commit (f := fun s => stopBoat (takeAbortFlows (takeIdleSource (stopStepTimers { s with
    rs.run := .aborting, rs.prior := none, rs.queue := [], rs.discarded := s.rs.queue.length, rs.current := none
    rs.thermal := none, rs.gas := none, rs.abortTimer := .running (s.image.abortTimeout * 1000) })))) fun _ _ => rfl

theorem leaveHeld_asideFree (run : RunState) : AsideFree (leaveHeld run) :=
  .commit (f := fun s => { s with rs.run := run, rs.prior := none, bd.droopWait := false, bd.factor := .full }) fun _ _ => rfl

theorem finishStep_asideFree (r : StepRecord) : AsideFree (finishStep r) := fun _ _ => rfl

theorem handOver_asideFree {α : Type} (part : Option α) {take : α → State → State} (h : ∀ p, AsideFree (take p)) :
    AsideFree (handOver part take) := by
  cases part with
  | none => exact fun _ _ => rfl
  | some p => exact h p

theorem evaluateDroop_asideFree : AsideFree evaluateDroop := by
  intro b s
  unfold evaluateDroop
  rw [show (setAside b s).bd = s.bd from rfl]
  cases s.bd.move with
  | none => rfl
  | some m =>
    rw [show (setAside b s).rs.run = s.rs.run from rfl, show (setAside b s).droopLimited = s.droopLimited from rfl]
    by_cases h : s.rs.run = .held
    · simp only [if_pos h]
    · simp only [if_neg h]
      cases s.droopLimited <;> rfl

theorem testArrival_asideFree : AsideFree testArrival := by
  intro b s
  unfold testArrival
  rw [show (setAside b s).arrives = s.arrives from rfl]
  cases s.arrives <;> rfl

theorem takeTarget_asideFree (m : BoatPart) : AsideFree (takeTarget m) := by
  intro b s
  have hset : testArrival (evaluateDroop (targetSet m (setAside b s))) =
      setAside b (testArrival (evaluateDroop (targetSet m s))) :=
    (testArrival_asideFree.comp evaluateDroop_asideFree) b (targetSet m s)
  have hpulse : (takeTarget m (setAside b s)).bd.pulse = (takeTarget m s).bd.pulse := by
    show (if (testArrival (evaluateDroop (targetSet m (setAside b s)))).pulsing then some 0 else none) = _
    rw [hset]
    rfl
  rw [takeTarget_bd_eq, takeTarget_bd_eq, hset, hpulse]
  rfl

theorem stepHandedOut_asideFree (r : StepRecord) : AsideFree (stepHandedOut r) :=
  ((handOver_asideFree _ takeTarget_asideFree).comp ((handOver_asideFree _ fun _ _ _ => rfl).comp
    (handOver_asideFree _ fun _ _ _ => rfl))).comp (g := makeCurrent r) fun _ _ => rfl

theorem startStep_asideFree (r : StepRecord) : AsideFree (startStep r) := by
  intro b s
  rw [startStep_eq, startStep_eq, stepHandedOut_asideFree r b s]
  exact commit_setAside b s (raiseEvent .stepStarted (releaseLatches (armStepTimers r { stepHandedOut r s with gc.acc := 0 })))

theorem updateDwell_asideFree : AsideFree updateDwell := by
  intro b s
  have hmatch (x : Option StepRecord) (hx : s.rs.current = x) : updateDwell (setAside b s) = setAside b (updateDwell s) := by
    unfold updateDwell
    rw [show (setAside b s).rs.current = s.rs.current from rfl, hx]
    cases x with
    | none => rfl
    | some r =>
      dsimp only
      rw [show (setAside b s).rs.run = s.rs.run from rfl, show (setAside b s).rs.dwell = s.rs.dwell from rfl,
        show (setAside b s).othersHold r.conditions = s.othersHold r.conditions from rfl]
      by_cases h : s.rs.run = .running ∧ r.conditions.dwell = true
      · simp only [if_pos h]
        cases s.rs.dwell.phase with
        | stopped => rfl
        | armed => cases s.othersHold r.conditions <;> rfl
        | counting =>
          by_cases hreached : r.dwell * 1000 ≤ s.rs.dwell.elapsed
          · simp only [if_pos hreached]
            rfl
          · simp only [if_neg hreached]
      · simp only [if_neg h]
  exact hmatch _ rfl

theorem evaluateLoop_asideFree (n : Nat) : AsideFree (evaluateLoop n) := by
  induction n with
  | zero => exact fun _ _ => rfl
  | succ n ih =>
    intro b s
    simp only [evaluateLoop, updateDwell_asideFree b s]
    generalize updateDwell s = u
    rw [show (setAside b u).rs.run = u.rs.run from rfl, show (setAside b u).rs.current = u.rs.current from rfl]
    cases u.rs.run with
    | running =>
      cases u.rs.current with
      | none => rfl
      | some r =>
        dsimp only
        refine (if_congr Iff.rfl ?_ rfl).trans (ite_setAside Iff.rfl b _ u)
        refine (if_congr Iff.rfl (enterIdle_asideFree b (finishStep r u)) ?_).trans (ite_setAside Iff.rfl b _ _)
        rw [finishStep_asideFree r b u, show (setAside b (finishStep r u)).rs.queue = (finishStep r u).rs.queue from rfl]
        cases (finishStep r u).rs.queue with
        | nil => rfl
        | cons next rest => exact (ih.comp (startStep_asideFree next)) b { finishStep r u with rs.queue := rest }
    | _ => rfl

theorem evaluate_asideFree : AsideFree evaluate := fun b s => evaluateLoop_asideFree (s.rs.queue.length + 1) b s

theorem stepStart_asideFree (r : StepRecord) : AsideFree (stepStart r) := evaluate_asideFree.comp (startStep_asideFree r)

theorem startHead_asideFree : AsideFree startHead := by
  intro b s
  unfold startHead
  rw [show (setAside b s).rs.queue = s.rs.queue from rfl]
  cases s.rs.queue with
  | nil => rfl
  | cons next rest => exact stepStart_asideFree next b { s with rs.queue := rest }

theorem testAbortPurge_asideFree : AsideFree testAbortPurge := by
  intro b s
  unfold testAbortPurge
  rw [enterIdle_asideFree b s, show (setAside b s).rs.run = s.rs.run from rfl, show (setAside b s).gc.abortPurge = s.gc.abortPurge from rfl,
    show (setAside b s).abortPurgeMet = s.abortPurgeMet from rfl]
  cases s.gc.abortPurge && s.abortPurgeMet with
  | false => rfl
  | true => exact ite_setAside (c := s.rs.run = .aborting) Iff.rfl b (enterIdle s) { s with gc.abortPurge := false }

theorem enterAborting_asideFree : AsideFree enterAborting := testAbortPurge_asideFree.comp beginAbort_asideFree

/-! ### The commands that an order may wait for -/

theorem dwellExpires_asideFree : AsideFree dwellExpires := by
  intro b s
  unfold dwellExpires
  rw [show (setAside b s).dwellPending = s.dwellPending from rfl]
  cases s.dwellPending with
  | none => rfl
  | some d => exact evaluate_asideFree b { s with rs.dwell := ⟨.counting, d * 1000, true⟩ }

theorem rampAndDrive_asideFree : AsideFree rampAndDrive := by
  intro b s
  have hdrive (u : State) (w f : Bool) : mapZoneC (driveZone (setAside b u)) { setAside b u with zc.rampWait := w, zc.frozen := f } =
      setAside b (mapZoneC (driveZone u) { u with zc.rampWait := w, zc.frozen := f }) := rfl
  have hseed : mapZoneC (seedZone (setAside b s)) (setAside b s) = setAside b (mapZoneC (seedZone s) s) := rfl
  unfold rampAndDrive
  dsimp only
  rw [hseed]
  generalize mapZoneC (seedZone s) s = u
  rw [show (setAside b u).frozenBy52 = u.frozenBy52 from rfl, show (setAside b u).rampLags = u.rampLags from rfl]
  cases u.frozenBy52 || u.rampLags with
  | false => exact hdrive (mapZoneC (advanceZone u) u) _ _
  | true => exact hdrive u _ _

theorem demandStage_asideFree : AsideFree demandStage := by
  intro b s
  have hcommit : commit (setAside b s) (handDemand (setAside b s)) = setAside b (commit s (handDemand s)) := commit_setAside b s (handDemand s)
  unfold demandStage
  rw [hcommit]
  rfl

theorem zcStages_asideFree : AsideFree zcStages :=
  (AsideFree.comp (f := settleStage) (fun _ _ => rfl) (demandStage_asideFree.comp rampAndDrive_asideFree)).comp
    (g := fun s => { s with zc.phase := .running Config.periodMs }) fun _ _ => rfl

theorem zcPasses_asideFree : AsideFree zcPasses := by
  intro b s
  unfold zcPasses
  rw [show (setAside b s).released = s.released from rfl, zcStages_asideFree b s]
  cases s.released with
  | false => rfl
  | true =>
    dsimp only
    rw [evaluate_asideFree b]
    exact ite_setAside Iff.rfl b _ _

/-- What an owner answers, with a waiting order set in the state it leaves. -/
def Served.setAside (b : Aside) (a : Served) : Served := { a with state := Machine.setAside b a.state }

section
variable (b : Aside) (s : State) (body : List Byte)

theorem answer_setAside (code : ReplyCode) : answer code (setAside b s) = (answer code s).setAside b := rfl

theorem serveFaultClear_setAside : serveFaultClear (setAside b s) = (serveFaultClear s).setAside b := by
  by_cases h : s.rs.run = .aborting
  · rw [serveFaultClear_of_aborting h, serveFaultClear_of_aborting (s := setAside b s) h, answer_setAside]
  · rw [serveFaultClear_of_ne_aborting h, serveFaultClear_of_ne_aborting (s := setAside b s) h]
    rfl

theorem appendRecord_asideFree (r : StepRecord) : AsideFree (appendRecord r) := by
  intro b s
  unfold appendRecord
  dsimp only
  exact (if_congr Iff.rfl (startHead_asideFree b { s with rs.queue := s.rs.queue ++ [r] }) rfl).trans
    (ite_setAside (c := s.rs.run = .starved) Iff.rfl b _ { s with rs.queue := s.rs.queue ++ [r] })

theorem serveStepAppend_setAside : serveStepAppend body (setAside b s) = (serveStepAppend body s).setAside b := by
  by_cases h : s.rs.run = .aborting
  · rw [serveStepAppend_aborting body s h, serveStepAppend_aborting body (setAside b s) h, answer_setAside]
  cases hread : readStep body with
  | none => rw [serveStepAppend_unreadable body s h hread, serveStepAppend_unreadable body (setAside b s) h hread, answer_setAside]
  | some raw =>
    by_cases hgas : raw.conditions.purgeDone = true ∧ raw.gas = none
    · rw [serveStepAppend_purgeDone_without_gas s h hread hgas, serveStepAppend_purgeDone_without_gas (setAside b s) h hread hgas,
        answer_setAside]
    by_cases hfull : 32 ≤ s.rs.queue.length
    · rw [serveStepAppend_queueFull s h hread hgas hfull, serveStepAppend_queueFull (setAside b s) h hread hgas hfull, answer_setAside]
    · rw [serveStepAppend_accepted s h hread hgas (Nat.lt_of_not_le hfull),
        serveStepAppend_accepted (setAside b s) h hread hgas (Nat.lt_of_not_le hfull), appendRecord_asideFree _ b s]
      rfl

theorem serveQueueClear_setAside : serveQueueClear (setAside b s) = (serveQueueClear s).setAside b := by
  unfold serveQueueClear
  rw [show (setAside b s).rs.run = s.rs.run from rfl]
  cases s.rs.run <;> rfl

theorem serveRunStart_setAside : serveRunStart (setAside b s) = (serveRunStart s).setAside b := by
  by_cases h : s.rs.run = .idle
  · cases hf : s.fl.pending with
    | true => rw [serveRunStart_of_pending h hf, serveRunStart_of_pending (s := setAside b s) h hf, answer_setAside]
    | false =>
      cases hq : s.rs.queue with
      | nil => rw [serveRunStart_of_empty h hf hq, serveRunStart_of_empty (s := setAside b s) h hf hq, answer_setAside]
      | cons r rest =>
        rw [serveRunStart_of_queue h hf hq, serveRunStart_of_queue (s := setAside b s) h hf hq]
        exact congrArg (answer .ok) (stepStart_asideFree r b { s with rs := { s.rs with
          queue := rest, clock := 0, clockPhase := .running 1000, done := 0, discarded := 0, lastLabel := none
          thermal := none, gas := none } })
  · rw [serveRunStart_of_ne_idle h, serveRunStart_of_ne_idle (s := setAside b s) h, answer_setAside]

theorem serveRunHold_setAside : serveRunHold (setAside b s) = (serveRunHold s).setAside b := by
  unfold serveRunHold
  rw [show (setAside b s).rs.run = s.rs.run from rfl, enterHeld_asideFree b s]
  cases s.rs.run <;> rfl

theorem restartTimeout_asideFree : AsideFree restartTimeout := by
  intro b s
  unfold restartTimeout
  rw [show (setAside b s).rs.current = s.rs.current from rfl]
  cases s.rs.current <;> rfl

theorem serveRunResume_setAside : serveRunResume (setAside b s) = (serveRunResume s).setAside b := by
  unfold serveRunResume
  rw [show (setAside b s).rs.run = s.rs.run from rfl, show (setAside b s).rs.prior = s.rs.prior from rfl,
    show (setAside b s).rs.queue = s.rs.queue from rfl, leaveHeld_asideFree .starved b s, leaveHeld_asideFree .running b s,
    startHead_asideFree b, restartTimeout_asideFree b, evaluate_asideFree b]
  cases s.rs.run with
  | held =>
    cases s.rs.prior with
    | none => rfl
    | some prior => cases prior with
      | running => rfl
      | starved => cases s.rs.queue <;> rfl
  | _ => rfl

theorem serveRunAbort_setAside : serveRunAbort (setAside b s) = (serveRunAbort s).setAside b := by
  unfold serveRunAbort
  rw [show (setAside b s).rs.run = s.rs.run from rfl, enterAborting_asideFree b s]
  cases s.rs.run <;> rfl

theorem serveBoatMove_setAside : serveBoatMove body (setAside b s) = (serveBoatMove body s).setAside b := by
  by_cases h : s.rs.run = .idle
  · have hcommit (m : BoatPart) : commit (setAside b s) (takeTarget m (setAside b s)) = setAside b (commit s (takeTarget m s)) :=
      AsideFree.commit (takeTarget_asideFree m) b s
    rw [serveBoatMove_of_idle h rfl, serveBoatMove_of_idle (s := setAside b s) h rfl, hcommit]
    rfl
  · rw [serveBoatMove, serveBoatMove, if_pos h, if_pos (by exact h), answer_setAside]

theorem serveConfigWrite_setAside : serveConfigWrite body (setAside b s) = (serveConfigWrite body s).setAside b := by
  unfold serveConfigWrite
  rw [show (setAside b s).configurable = s.configurable from rfl]
  cases s.configurable with
  | false => rfl
  | true =>
    by_cases h : body.length < 2 ∨ 64 < at1 body 0 + body.tail.length
    · simp only [if_pos h]
      rfl
    · simp only [if_neg h]
      rfl

theorem releaseBU_asideFree : AsideFree releaseBU := fun b s =>
  ite_setAside (c := s.image.curtailSource = true ∧ s.inputLevel ≠ s.bu.debounced) Iff.rfl b
    { s with bu.debounce := .running Config.debounceMs } s

theorem release_asideFree : AsideFree release :=
  .commit (f := fun s => releaseBU (releaseBL (releaseBD (releaseGC (releaseZC (releaseZM (raiseEvent .ready { s with
    cl.image := some (applyImage s.cl.staging s.cl.addr s.fuses)
    cl.clamped := imageClamped s.cl.staging s.cl.addr s.fuses
    cl.startup := .joining }))))))) (releaseBU_asideFree.comp fun _ _ => rfl)

theorem validateStaging_asideFree : AsideFree validateStaging := by
  intro b s
  unfold validateStaging
  rw [show (setAside b s).cl = s.cl from rfl]
  cases imageFault s.cl.staging with
  | none => exact release_asideFree b s
  | some k =>
    dsimp only
    rw [reportFault_of_note _ _ _ _ rfl, reportFault_of_note _ _ _ _ rfl]
    rfl

theorem serveConfigDone_setAside : serveConfigDone (setAside b s) = (serveConfigDone s).setAside b := by
  unfold serveConfigDone
  rw [show (setAside b s).configurable = s.configurable from rfl, validateStaging_asideFree b s, show (setAside b s).cl = s.cl from rfl]
  cases s.configurable with
  | false => rfl
  | true => cases imageFault s.cl.staging <;> rfl

/-- Every owner leaves a waiting order alone. -/
theorem serveOwner_setAside (r : Request) : serveOwner r body (setAside b s) = (serveOwner r body s).setAside b := by
  cases r with
  | statusRead | zoneRead | viewRead | eventRead | faultRead => rfl
  | faultClear => exact serveFaultClear_setAside b s
  | stepAppend => exact serveStepAppend_setAside b s body
  | queueClear => exact serveQueueClear_setAside b s
  | runStart => exact serveRunStart_setAside b s
  | runHold => exact serveRunHold_setAside b s
  | runResume => exact serveRunResume_setAside b s
  | runAbort => exact serveRunAbort_setAside b s
  | boatMove => exact serveBoatMove_setAside b s body
  | configWrite => exact serveConfigWrite_setAside b s body
  | configDone => exact serveConfigDone_setAside b s

theorem serveRequest_setAside (kind : Byte) : serveRequest kind body (setAside b s) = (serveRequest kind body s).setAside b := by
  unfold serveRequest
  cases readRequest kind with
  | none => rfl
  | some r =>
    dsimp only
    rw [show (setAside b s).released = s.released from rfl, serveOwner_setAside]
    cases !s.released && !r.early with
    | true => rfl
    | false => cases r.fixedLength.any (· ≠ body.length) <;> rfl

end

theorem serveEntry_asideFree (e : LpEntry) : AsideFree (serveEntry e) := by
  intro b s
  cases e with
  | request kind body =>
    exact congrArg (fun a : Served => sendReply ⟨kind, a.code, a.body⟩ a.state) (serveRequest_setAside b s body kind)
  | _ => rfl

theorem offerEntry_asideFree (e : LpEntry) : AsideFree (offerEntry e) := by
  intro b s
  unfold offerEntry
  rw [show (setAside b s).lp.reply = s.lp.reply from rfl, show (setAside b s).lp.slot = s.lp.slot from rfl, serveEntry_asideFree e b s]
  cases s.lp.reply with
  | none => rfl
  | some r => cases s.lp.slot <;> rfl

theorem formEntry_asideFree (e : LpEntry) : AsideFree fun s => formEntry s e := by
  intro b s
  cases e with
  | reject => exact offerEntry_asideFree .reject b { s with lp.lineErrors := satSucc Config.count16 s.lp.lineErrors }
  | request kind body => exact offerEntry_asideFree (.request kind body) b s
  | badCheck kind => exact offerEntry_asideFree (.badCheck kind) b s

theorem formEntries_asideFree (es : List LpEntry) : AsideFree fun s => es.foldl formEntry s := by
  induction es with
  | nil => exact fun _ _ => rfl
  | cons e es ih => exact ih.comp (formEntry_asideFree e)

theorem endReply_asideFree : AsideFree endReply := by
  intro b s
  unfold endReply
  rw [show (setAside b s).lp.reply = s.lp.reply from rfl, show (setAside b s).lp.slot = s.lp.slot from rfl]
  cases s.lp.reply with
  | none => rfl
  | some r =>
    cases s.lp.slot with
    | none => rfl
    | some e => exact serveEntry_asideFree e b { s with lp.reply := none, lp.replyTimer := .stopped, lp.slot := none }

/-! ### A waiting order, beside everything else -/

/-- The state with an abort order waiting or not (log 35). -/
def setOrder (b : Bool) (s : State) : State := { s with rs.abortOrdered := b }

/-- An action that neither reads nor sets whether an abort order waits. -/
def OrderFree (f : State → State) : Prop := ∀ b s, f (setOrder b s) = setOrder b (f s)

theorem AsideFree.keeps {f : State → State} (hf : AsideFree f) (s : State) :
    (f s).rs.abortOrdered = s.rs.abortOrdered ∧ (f s).lp.rx = s.lp.rx ∧ (f s).lp.gap = s.lp.gap := by
  have h : f s = setAside ⟨s.rs.abortOrdered, s.lp.rx, s.lp.gap⟩ (f s) := hf ⟨s.rs.abortOrdered, s.lp.rx, s.lp.gap⟩ s
  rw [h]
  exact ⟨rfl, rfl, rfl⟩

theorem AsideFree.orderFree {f : State → State} (hf : AsideFree f) : OrderFree f := by
  intro b s
  obtain ⟨-, hrx, hgap⟩ := hf.keeps s
  calc f (setOrder b s) = setAside ⟨b, s.lp.rx, s.lp.gap⟩ (f s) := hf ⟨b, s.lp.rx, s.lp.gap⟩ s
    _ = setAside ⟨b, (f s).lp.rx, (f s).lp.gap⟩ (f s) := by rw [hrx, hgap]
    _ = setOrder b (f s) := rfl

theorem dwellExpires_orderFree : OrderFree dwellExpires := dwellExpires_asideFree.orderFree
theorem zcPasses_orderFree : OrderFree zcPasses := zcPasses_asideFree.orderFree
theorem endReply_orderFree : OrderFree endReply := endReply_asideFree.orderFree

theorem receiveChars_orderFree (chars : List LpChar) : OrderFree (receiveChars chars) := fun b s =>
  (formEntries_asideFree (lpFeed s.lp.rx chars).2).orderFree b
    { s with lp.rx := (lpFeed s.lp.rx chars).1, lp.gap := if chars.isEmpty then s.lp.gap else 0 }

end Sys2Proof.Machine
end

section
/-!
PROOF. A fault whole: its class, its place in the log, its event, its run effect, and an abort order that waits (R23, R157 to R166,
log 35).
-/
namespace Sys2Proof.Machine

/-! ### Class and place (R157, R159) -/

theorem faultClass_eq (k : FaultKind) (subject : FaultSubject) : faultClass k subject =
    if k ∈ [FaultKind.overtemp, .boatStall, .boatSlip] ∨ k = .zoneLost ∧ subject = .zone .z3 then .abort
    else if k ∈ [FaultKind.zoneLost, .stepTimeout, .flowDeviation, .sealLost, .markOverflow] then .hold
    else .note := by
  cases k <;> simp [faultClass]

theorem placeFault_eq (r : FaultRecord) (f : FaultLog) : placeFault r f = {
    first := f.first.or (some r)
    next := if f.first.isSome then f.next.or (some r) else f.next
    summary := if f.first.isSome && f.next.isSome then
      FaultKind.all.filter (fun x => x = r.kind || x ∈ f.summary) else f.summary
    count := satSucc 255 f.count } := by
  cases hfirst : f.first <;> cases hnext : f.next <;> simp [placeFault, hfirst, hnext]

/-! ### The run effect (R161, R162) -/

section
variable {k : FaultKind} {subject : FaultSubject} {value : FaultValue} {s : State}

theorem reportFault_of_abort (h : faultClass k subject = .abort) :
    reportFault k subject value s = giveAbortOrder s.orderMeets (takeFault k subject value s) := by
  simp only [reportFault, reportFaultMeeting, h]

/-- A fault with no run effect: of note class, in IDLE or ABORTING, or of hold class in HELD (R161, R162). -/
theorem reportFault_of_no_effect (h : faultClass k subject = .note ∨ s.rs.run = .idle ∨ s.rs.run = .aborting ∨
    faultClass k subject = .hold ∧ s.rs.run = .held) : reportFault k subject value s = takeFault k subject value s := by
  rcases h with h | h | h | ⟨hclass, h⟩
  · exact reportFault_of_note _ _ _ _ h
  · cases hclass : faultClass k subject with
    | abort => rw [reportFault_of_abort hclass]; simp [giveAbortOrder, takeAbortOrder, h, RunState.abortable]
    | _ => simp only [reportFault, reportFaultMeeting, hclass, h]
  · cases hclass : faultClass k subject with
    | abort => rw [reportFault_of_abort hclass]; simp [giveAbortOrder, takeAbortOrder, h, RunState.abortable]
    | _ => simp only [reportFault, reportFaultMeeting, hclass, h]
  · simp only [reportFault, reportFaultMeeting, hclass, h]

/-- An order that nothing else reaches RS with is taken at once (R162). -/
theorem giveAbortOrder_alone (h : s.rs.run = .running ∨ s.rs.run = .starved ∨ s.rs.run = .held) :
    giveAbortOrder false s = enterAborting s := by
  rw [giveAbortOrder_false, takeAbortOrder_of_abortable h]

/-- Where something else reaches RS with an order, it is taken at once or it waits, a free choice (R162, log 35). -/
theorem giveAbortOrder_meeting (h : s.rs.run = .running ∨ s.rs.run = .starved ∨ s.rs.run = .held) :
    giveAbortOrder true s = enterAborting { s with free := s.free + 1 } ∨
    giveAbortOrder true s = { s with rs := { s.rs with abortOrdered := true }, free := s.free + 1 } := by
  have habort : s.rs.run.abortable = true := by rcases h with h | h | h <;> rw [h] <;> rfl
  unfold giveAbortOrder
  rw [habort]
  dsimp only
  rw [if_pos (by rfl), takeAbortOrder_of_abortable (by exact h)]
  split
  · exact .inl rfl
  · exact .inr rfl

theorem mem_enterHeld_events {e : EventKind} (h : e ∈ s.lp.events) : e ∈ (enterHeld s).lp.events :=
  mem_commit_events _ (mem_raiseEvent.2 (.inr h))

theorem mem_beginAbort_events {e : EventKind} (h : e ∈ s.lp.events) : e ∈ (beginAbort s).lp.events := mem_commit_events _ h

theorem mem_enterIdle_events {e : EventKind} (h : e ∈ s.lp.events) : e ∈ (enterIdle s).lp.events :=
  mem_commit_events _ (mem_raiseEvent.2 (.inr h))

theorem mem_enterAborting_events {e : EventKind} (h : e ∈ s.lp.events) : e ∈ (enterAborting s).lp.events := by
  rcases enterAborting_cases s with h' | h' <;> rw [h']
  · exact mem_beginAbort_events h
  · exact mem_enterIdle_events (mem_beginAbort_events h)

/-- Whatever its run effect, a fault's place in the log and its event stand (R159, R160). -/
theorem reportFault_fl_and_event : (reportFault k subject value s).fl = (takeFault k subject value s).fl ∧
    .fault ∈ (reportFault k subject value s).lp.events := by
  have hevent : .fault ∈ (takeFault k subject value s).lp.events := mem_raiseEvent.2 (.inl rfl)
  unfold reportFault reportFaultMeeting
  dsimp only
  generalize takeFault k subject value s = u at hevent
  split
  · exact ⟨enterHeld_fl u, mem_enterHeld_events hevent⟩
  · exact ⟨enterHeld_fl u, mem_enterHeld_events hevent⟩
  · refine ⟨giveAbortOrder_fl _ u, ?_⟩
    have htake : .fault ∈ (takeAbortOrder u).lp.events := by
      unfold takeAbortOrder
      split
      · exact mem_enterAborting_events hevent
      · exact hevent
    rcases giveAbortOrder_cases s.orderMeets u with h | ⟨-, -, h | h⟩ <;> rw [h]
    · exact htake
    · exact mem_enterAborting_events (s := { u with free := u.free + 1 }) hevent
    · exact hevent
  · exact ⟨rfl, hevent⟩

/-! ### A waiting order (log 35) -/

theorem meetsOrder_iff {c : Instr} : meetsOrder c = true ↔
    c ∈ [Instr.dwellExpiry, .zcPeriod, .gcPeriod, .bdEvaluation, .replyEnd] ∨ ∃ body, c = .faultClear body ∨ c = .runResume body := by
  cases c <;> simp [meetsOrder]

theorem orderMeets_iff : s.orderMeets = true ↔ ∃ c rest, s.pending = c :: rest ∧ meetsOrder c = true := by
  unfold State.orderMeets
  cases s.pending <;> simp

/-- The commands that an order may wait for, apart from the two that can raise a further fault (R163, log 35). -/
theorem exec_of_meetsOrder_orderFree {c : Instr} (h : meetsOrder c = true) (hgc : c ≠ .gcPeriod) (hbd : c ≠ .bdEvaluation) :
    ∃ f, OrderFree f ∧ ∀ s, exec c s = .next (beforeOrder f s) := by
  cases c with
  | dwellExpiry => exact ⟨_, dwellExpires_orderFree, fun _ => rfl⟩
  | zcPeriod => exact ⟨_, zcPasses_orderFree, fun _ => rfl⟩
  | faultClear body => exact ⟨_, receiveChars_orderFree _, fun _ => rfl⟩
  | runResume body => exact ⟨_, receiveChars_orderFree _, fun _ => rfl⟩
  | replyEnd => exact ⟨_, endReply_orderFree, fun _ => rfl⟩
  | gcPeriod => exact absurd rfl hgc
  | bdEvaluation => exact absurd rfl hbd
  | _ => cases h

/-- A command that an order waits for runs as without it, and RS takes the order after it (log 35). -/
theorem beforeOrder_of_orderFree {f : State → State} (hf : OrderFree f) (h : s.rs.abortOrdered = true) :
    beforeOrder f (setOrder false s) = f (setOrder false s) ∧ beforeOrder f s = takeAbortOrder (f (setOrder false s)) := by
  refine ⟨beforeOrder_of_none f rfl, ?_⟩
  have hset : setOrder true s = s := by rw [setOrder, ← h]
  have hwaiting : (f s).rs.abortOrdered = true := by rw [← hset, hf]; rfl
  rw [beforeOrder, if_pos h, takeWaitingOrder_of_waiting hwaiting]
  exact congrArg takeAbortOrder (hf false s).symm

end

/-- Settles O39: the fault is `takeFault` and the run effect of its class, and a waiting order is beside the command it waits for. -/
theorem faultTaken : Obligations.FaultTaken := by
  intro k subject value s cls record taken
  have hclass : cls = faultClass k subject := (faultClass_eq k subject).symm
  have hrecord : record = formRecord k subject value s.rs := by simp only [record, hclass]; rfl
  have htaken : taken = takeFault k subject value s := by
    simp only [taken, hrecord, takeFault, placeFault_eq]
    rfl
  have hrun : (takeFault k subject value s).rs.run = s.rs.run := rfl
  rw [hclass, htaken]
  clear_value cls record taken
  refine ⟨fun h hgoing => ⟨reportFault_of_hold _ _ _ _ h hgoing, by simp⟩, fun h hgoing => ⟨fun hmeets => ?_, fun hmeets => ?_⟩,
    reportFault_of_no_effect, reportFault_fl_and_event.1, reportFault_fl_and_event.2, ?_, takeWaitingOrder_of_none,
    fun h => ?_, fun c h hmeets hgc hbd => ?_⟩
  · rw [reportFault_of_abort h, hmeets, giveAbortOrder_alone (by exact hgoing)]
  · rw [reportFault_of_abort h, hmeets]
    exact giveAbortOrder_meeting hgoing
  · simp only [orderMeets_iff, meetsOrder_iff]
  · intro off
    exact ⟨fun hgoing => (takeWaitingOrder_of_waiting h).trans (takeAbortOrder_of_abortable hgoing),
      fun hended => (takeWaitingOrder_of_waiting h).trans (takeAbortOrder_of_ended hended)⟩
  · obtain ⟨f, hf, hexec⟩ := exec_of_meetsOrder_orderFree hmeets hgc hbd
    obtain ⟨hwithout, hwith⟩ := beforeOrder_of_orderFree hf h
    refine ⟨f (setOrder false s), (hexec _).trans (congrArg _ hwithout), fun hgoing => ?_, fun hended => ?_⟩
    · rw [hexec, hwith, takeAbortOrder_of_abortable hgoing]
    · rw [hexec, hwith, takeAbortOrder_of_ended hended]

end Sys2Proof.Machine
end

section
/-!
PROOF. Values clamped to their ranges: the image in force and its clamped flag (R188, R189, R200), and a step record as RS keeps it
(R2 to R5).
-/
namespace Sys2Proof.Machine

/-! ### Clamps -/

theorem clampNat_eq_max {lo hi : Nat} (h : lo ≤ hi) (x : Nat) : clampNat lo hi x = max lo (min hi x) := by
  rw [clampNat_eq h]; omega

theorem clampNat_eq_self_iff {lo hi : Nat} (h : lo ≤ hi) (x : Nat) : clampNat lo hi x = x ↔ lo ≤ x ∧ x ≤ hi := by
  rw [clampNat_eq h]; omega

theorem clampInt_eq {lo hi : Int} (h : lo ≤ hi) (x : Int) : clampInt lo hi x = min hi (max lo x) := by
  unfold clampInt
  split
  · omega
  · split <;> omega

theorem perZone_any_eq_false_iff {f : Zone → Bool} : PerZone.any f = false ↔ ∀ z, f z = false := by
  simp only [PerZone.any, Bool.or_eq_false_iff]
  constructor
  · rintro ⟨⟨⟨⟨h1, h2⟩, h3⟩, h4⟩, h5⟩ z
    cases z <;> assumption
  · exact fun h => ⟨⟨⟨⟨h _, h _⟩, h _⟩, h _⟩, h _⟩

theorem zoneBytes_get (b : List Byte) (i : Nat) (z : Zone) : (zoneBytes b i).get z = at1 b (i + z.index) := by
  cases z <;> rfl

theorem zoneBytes_eq (b : List Byte) (i : Nat) : zoneBytes b i = PerZone.build fun z => at1 b (i + z.index) := rfl

/-! ### The image in force -/

section
variable (b : List Byte) (addr : BitVec 3) (fuses : Fuses)

theorem periodField_iff (v : Nat) : (v ≠ 0 → periodField v = v) ↔ v = 0 ∨ 25 ≤ v ∧ v ≤ 200 := by
  unfold periodField
  split
  · next h => simp [h]
  · next h => simp [h, clampNat_eq_self_iff]

theorem applyImage_station_eq : (applyImage b addr fuses).station = if at1 b 1 = 0 then addr.toNat + 1 else min 8 (at1 b 1) := by
  simp only [applyImage]
  split
  · rfl
  · rw [clampNat_eq (by omega)]; omega

theorem applyImage_pIn_eq : 1000 ≤ (applyImage b addr fuses).pIn ∧ (applyImage b addr fuses).pIn = max 1000 (min 20000 (at2 b 40)) := by
  have h : (applyImage b addr fuses).pIn = max 1000 (min 20000 (at2 b 40)) := clampNat_eq_max (by omega) _
  exact ⟨h ▸ Nat.le_max_left _ _, h⟩

theorem applyImage_ranges : let i := applyImage b addr fuses
    1 ≤ i.station ∧ i.station ≤ 8 ∧ 250 ≤ i.announcePeriod ∧ i.announcePeriod ≤ 2000 ∧ i.pMouth < i.pIn ∧ i.pRef < i.pIn ∧
      i.zoneLimit ≤ 13500 := by
  intro i
  obtain ⟨hlow, hhigh⟩ : 1 ≤ i.station ∧ i.station ≤ 8 := applyImage_station b addr fuses
  have hperiod : i.announcePeriod = periodField (at1 b 4) * 10 := rfl
  have hfield : 25 ≤ periodField (at1 b 4) ∧ periodField (at1 b 4) ≤ 200 := by
    unfold periodField
    split
    · omega
    · rw [clampNat_eq (by omega)]; omega
  have hpIn : 1000 ≤ i.pIn := (applyImage_pIn_eq b addr fuses).1
  have hmouth : i.pMouth ≤ i.pIn - 1 := Nat.min_le_right _ _
  have href : i.pRef ≤ i.pIn - 1 := Nat.min_le_right _ _
  have hlimit : i.zoneLimit ≤ i.ceiling := Nat.min_le_left _ _
  have hceiling : i.ceiling ≤ 13500 := by simp only [i, applyImage, clampNat_eq (show 3000 ≤ 13500 by omega)]; omega
  exact ⟨hlow, hhigh, by omega, by omega, by omega, by omega, by omega⟩

/-- The clamped flag stays clear exactly where every field that has a range lies within it and Z3 is in the mask (R188). -/
theorem imageClamped_eq_false_iff : imageClamped b addr fuses = false ↔
    at1 b 1 ≤ 8 ∧ (1 ≤ at1 b 2 ∧ at1 b 2 ≤ 8) ∧ (at1 b 4 = 0 ∨ 25 ≤ at1 b 4 ∧ at1 b 4 ≤ 200) ∧
      (1 ≤ at2 b 5 ∧ at2 b 5 ≤ 4000) ∧ (1 ≤ at2 b 7 ∧ at2 b 7 ≤ 2400) ∧ (byteAt b 9).getLsbD 2 = true ∧
      (∀ z : Zone, 10 ≤ at1 b (10 + z.index) ∧ at1 b (10 + z.index) ≤ 120) ∧
      (3000 ≤ at2 b 25 ∧ at2 b 25 ≤ 13500) ∧ at2 b 27 ≤ (applyImage b addr fuses).zoneLimit ∧
      (1 ≤ at1 b 29 ∧ at1 b 29 ≤ 250) ∧ at2 b 30 ≤ 600 ∧
      (10 ≤ at2 b 32 ∧ at2 b 32 ≤ 400) ∧ at1 b 34 ≤ 50 ∧ at2 b 35 ≤ 300 ∧ at1 b 37 ≤ 200 ∧ (60 ≤ at2 b 38 ∧ at2 b 38 ≤ 3600) ∧
      (1000 ≤ at2 b 40 ∧ at2 b 40 ≤ 20000) ∧ at2 b 42 < (applyImage b addr fuses).pIn ∧ at2 b 44 < (applyImage b addr fuses).pIn ∧
      (10 ≤ at2 b 46 ∧ at2 b 46 ≤ 500) ∧ (5 ≤ at1 b 48 ∧ at1 b 48 ≤ 200) ∧ (1 ≤ at1 b 49 ∧ at1 b 49 ≤ 20) := by
  have hstation : ¬ (at1 b 1 ≠ 0 ∧ (applyImage b addr fuses).station ≠ at1 b 1) ↔ at1 b 1 ≤ 8 := by
    rw [applyImage_station_eq]
    have := addr.isLt
    split <;> omega
  have hperiod : ¬ (at1 b 4 ≠ 0 ∧ periodField (at1 b 4) ≠ at1 b 4) ↔ at1 b 4 = 0 ∨ 25 ≤ at1 b 4 ∧ at1 b 4 ≤ 200 := by
    rw [← periodField_iff]; tauto
  have hrating : (∀ z, (applyImage b addr fuses).rating.get z = (zoneBytes b 10).get z) ↔
      ∀ z : Zone, 10 ≤ at1 b (10 + z.index) ∧ at1 b (10 + z.index) ≤ 120 := by
    refine forall_congr' fun z => ?_
    rw [← clampNat_eq_self_iff (by omega), ← zoneBytes_get]
    exact Eq.congr_left (perZone_get_build _ z)
  have hbelow (x : Nat) : x ≤ (applyImage b addr fuses).pIn - 1 ↔ x < (applyImage b addr fuses).pIn := by
    have := (applyImage_pIn_eq b addr fuses).1
    omega
  have hmouth : (applyImage b addr fuses).pMouth = at2 b 42 ↔ at2 b 42 < (applyImage b addr fuses).pIn :=
    min_eq_left_iff.trans (hbelow _)
  have href : (applyImage b addr fuses).pRef = at2 b 44 ↔ at2 b 44 < (applyImage b addr fuses).pIn :=
    min_eq_left_iff.trans (hbelow _)
  have hidle : (applyImage b addr fuses).idleTemperature = at2 b 27 ↔ at2 b 27 ≤ (applyImage b addr fuses).zoneLimit := min_eq_left_iff
  have hbank : (applyImage b addr fuses).bankSize = at1 b 2 ↔ _ := clampNat_eq_self_iff (by omega) _
  have hheater : (applyImage b addr fuses).heaterBudget = at2 b 5 ↔ _ := clampNat_eq_self_iff (by omega) _
  have hpurge : (applyImage b addr fuses).purgeBudget = at2 b 7 ↔ _ := clampNat_eq_self_iff (by omega) _
  have hceiling : (applyImage b addr fuses).ceiling = at2 b 25 ↔ _ := clampNat_eq_self_iff (by omega) _
  have hrate : (applyImage b addr fuses).idleRate = at1 b 29 ↔ _ := clampNat_eq_self_iff (by omega) _
  have hsettle : (applyImage b addr fuses).settleTime = at2 b 30 ↔ _ := min_eq_left_iff
  have htube : (applyImage b addr fuses).tubeVolume = at2 b 32 ↔ _ := clampNat_eq_self_iff (by omega) _
  have hbleed : (applyImage b addr fuses).bleedFloor = at1 b 34 ↔ _ := min_eq_left_iff
  have hflow : (applyImage b addr fuses).abortPurgeFlow = at2 b 35 ↔ _ := min_eq_left_iff
  have hrequirement : (applyImage b addr fuses).abortPurgeRequirement = at1 b 37 ↔ _ := min_eq_left_iff
  have htimeout : (applyImage b addr fuses).abortTimeout = at2 b 38 ↔ _ := clampNat_eq_self_iff (by omega) _
  have hpIn : (applyImage b addr fuses).pIn = at2 b 40 ↔ _ := clampNat_eq_self_iff (by omega) _
  have hstall : (applyImage b addr fuses).stallLimit = at2 b 46 ↔ _ := clampNat_eq_self_iff (by omega) _
  have hslip : (applyImage b addr fuses).slipLimit = at1 b 48 ↔ _ := clampNat_eq_self_iff (by omega) _
  have htolerance : (applyImage b addr fuses).flowTolerance = at1 b 49 ↔ _ := clampNat_eq_self_iff (by omega) _
  unfold imageClamped
  simp only [Bool.or_eq_false_iff, decide_eq_false_iff_not, hstation, hperiod, perZone_any_eq_false_iff, not_not, Bool.not_eq_false',
    hrating, hbank, hheater, hpurge, hceiling, hidle, hrate, hsettle, htube, hbleed, hflow, hrequirement, htimeout, hpIn, hmouth, href,
    hstall, hslip, htolerance, and_assoc]

end

/-- Settles O29: each field is its clamp, and the flag is the conjunction of the fields' own ranges. -/
theorem imageWithinRanges : Obligations.ImageWithinRanges := by
  intro b addr fuses i near two one ceiling limit pIn
  have hlow : (if fuses.ceiling = .low then 12500 else 13500) = fuses.ceiling.limit := by cases fuses.ceiling <;> rfl
  have hlimit : limit = i.zoneLimit := by simp only [limit, hlow, ceiling, i, applyImage, clampNat_eq_max (show 3000 ≤ 13500 by omega)]; rfl
  have hpIn : pIn = i.pIn := ((applyImage_pIn_eq b addr fuses).2).symm
  refine ⟨?_, applyImage_ranges b addr fuses, ?_⟩
  · have hused : (⟨(byteAt b 9).getLsbD 0, (byteAt b 9).getLsbD 1, true, (byteAt b 9).getLsbD 3, (byteAt b 9).getLsbD 4⟩ : PerZone Bool) =
        PerZone.build fun z => (byteAt b 9).getLsbD z.index || decide (z = .z3) := by simp [PerZone.build, Zone.index]
    have hperiod : periodField (at1 b 4) * 10 = if one 4 = 0 then 1000 else 10 * near 25 200 (one 4) := by
      show periodField (at1 b 4) * 10 = if at1 b 4 = 0 then 1000 else 10 * near 25 200 (at1 b 4)
      unfold periodField
      by_cases h : at1 b 4 = 0
      · rw [if_pos h, if_pos h]
      · rw [if_neg h, if_neg h, clampNat_eq_max (by omega), mul_comm]
    have hclamp (lo hi x : Nat) (h : lo ≤ hi) : clampNat lo hi x = near lo hi x := clampNat_eq_max h x
    rw [hlimit, hpIn]
    refine (Image.mk.injEq ..).mpr ⟨applyImage_station_eq b addr fuses, rfl, hclamp _ _ _ (by omega), rfl, rfl, hperiod,
      hclamp _ _ _ (by omega), hclamp _ _ _ (by omega), hused, ?_, rfl, rfl, hclamp _ _ _ (by omega), rfl, min_comm _ _,
      hclamp _ _ _ (by omega), min_comm _ _, hclamp _ _ _ (by omega), min_comm _ _, min_comm _ _, min_comm _ _,
      hclamp _ _ _ (by omega), rfl, min_comm _ _, min_comm _ _, hclamp _ _ _ (by omega), hclamp _ _ _ (by omega),
      hclamp _ _ _ (by omega)⟩
    exact congrArg PerZone.build (funext fun z => (hclamp _ _ _ (by omega)).trans (congrArg (near 10 120) (zoneBytes_get b 10 z)))
  · rw [hlimit, hpIn]
    exact imageClamped_eq_false_iff b addr fuses

/-! ### A step record as RS keeps it -/

theorem clampInt_eq_self_iff {lo hi : Int} (h : lo ≤ hi) (x : Int) : clampInt lo hi x = x ↔ lo ≤ x ∧ x ≤ hi := by
  rw [clampInt_eq h]; omega

section
variable (img : Image)

theorem storeThermal_target (p : RawThermal) (z : Zone) : ((storeThermal img p).targets.get z : Int) =
    min (img.zoneLimit : Int) (max 0 (p.centre + min 500 (max (-500) (p.offsets.get z)))) := by
  have hget : (storeThermal img p).targets.get z = (clampInt 0 img.zoneLimit (rawTarget p z)).toNat := perZone_get_build _ z
  rw [hget, rawTarget, clampInt_eq (by omega), clampInt_eq (by omega)]
  omega

/-- A thermal part is stored as given where its rate and band, and the offset and target of each used zone, lie in range
(R2, log 19). -/
theorem thermalClamped_eq_false_iff (p : RawThermal) : thermalClamped img p = false ↔
    1 ≤ p.rate ∧ p.rate ≤ 250 ∧ p.band ≤ 500 ∧ ∀ z, img.used.get z = true →
      -500 ≤ p.offsets.get z ∧ p.offsets.get z ≤ 500 ∧ 0 ≤ p.centre + p.offsets.get z ∧
      p.centre + p.offsets.get z ≤ img.zoneLimit := by
  have hzone (z : Zone) : (decide (clampInt (-500) 500 (p.offsets.get z) ≠ p.offsets.get z) ||
      decide (clampInt 0 img.zoneLimit (rawTarget p z) ≠ rawTarget p z)) = false ↔
      -500 ≤ p.offsets.get z ∧ p.offsets.get z ≤ 500 ∧ 0 ≤ p.centre + p.offsets.get z ∧
      p.centre + p.offsets.get z ≤ img.zoneLimit := by
    rw [Bool.or_eq_false_iff, decide_eq_false_iff_not, decide_eq_false_iff_not, not_not, not_not,
      clampInt_eq_self_iff (by omega), clampInt_eq_self_iff (by omega), rawTarget, clampInt_eq (by omega)]
    omega
  unfold thermalClamped
  simp only [Bool.or_eq_false_iff, decide_eq_false_iff_not, not_not, clampNat_eq_self_iff (show 1 ≤ 250 by omega), not_lt,
    perZone_any_eq_false_iff, Bool.and_eq_false_imp, hzone, and_assoc]

theorem storeGas_eq_self_iff (p : GasPart) : storeGas p = p ↔
    p.flows.purge ≤ 300 ∧ p.flows.carrier ≤ 200 ∧ p.flows.oxidant ≤ 150 ∧ p.requirement ≤ 200 := by
  obtain ⟨⟨purge, carrier, oxidant⟩, requirement⟩ := p
  simp [storeGas, and_assoc]

theorem storeBoat_eq_self_iff (p : BoatPart) : storeBoat img p = p ↔
    p.target ≤ img.pIn ∧ 10 ≤ p.speed ∧ p.speed ≤ 600 ∧ p.droop ≤ 1000 := by
  obtain ⟨target, speed, droop⟩ := p
  simp [storeBoat, clampNat_eq_self_iff, and_assoc]

theorem option_any_eq_false_iff {α : Type} {o : Option α} {f : α → Bool} : o.any f = false ↔ ∀ p, o = some p → f p = false := by
  cases o <;> simp

end

/-- Settles O31: each part is stored by its own clamps, and the append is clamped where one of them changed a field. -/
theorem storedRecordClamps : Obligations.StoredRecordClamps := by
  intro img raw r
  refine ⟨⟨rfl, rfl, rfl, rfl, rfl⟩, ⟨by simp [r, storeStep], by simp [r, storeStep], by simp [r, storeStep]⟩,
    fun p q hp hq => ?_, fun p q hp hq => ?_, fun p q hp hq => ?_, ?_⟩
  · obtain rfl : storeThermal img p = q := by simpa [r, storeStep, hp] using hq
    exact ⟨clampNat_eq (by omega) _, min_comm _ _, storeThermal_target img p⟩
  · obtain rfl : storeGas p = q := by simpa [r, storeStep, hp] using hq
    simp [storeGas, min_comm]
  · obtain rfl : storeBoat img p = q := by simpa [r, storeStep, hp] using hq
    exact ⟨min_comm _ _, clampNat_eq (by omega) _, min_comm _ _⟩
  · simp only [stepClamped, Bool.or_eq_false_iff, option_any_eq_false_iff, thermalClamped_eq_false_iff, decide_eq_false_iff_not,
      not_not, storeGas_eq_self_iff, storeBoat_eq_self_iff, and_assoc]

end Sys2Proof.Machine
end

section
/-!
PROOF. Zone Measurement: the learned offset (R37), the timers at their ends (R30 to R35), and a sample taken (R28, R29, R36, R38, R199).
-/
namespace Sys2Proof.Machine

/-! ### The learned offset -/

theorem learnOffset_eq (p q offset : Int) : learnOffset p q offset = min 500 (max (-500) (offset + (p - q - offset).tdiv 16)) :=
  clampInt_eq (by omega) _

/-- Settles O44: a ZM period maps `zoneAtPeriod` over the zones. -/
theorem offsetLearns : Obligations.OffsetLearns := by
  intro s hr
  have hzone (z : Zone) : (PerZone.build fun z => zoneAtPeriod (s.used z) (s.zoneM z)).get z = zoneAtPeriod (s.used z) (s.zoneM z) :=
    perZone_get_build _ z
  refine ⟨_, congrArg Host.Outcome.next (if_pos hr), rfl, fun z => ⟨fun p q hused hprofile hspike hp hq => (hzone z).trans ?_,
    fun h => (hzone z).trans ?_⟩⟩
  · simp [zoneAtPeriod, hused, hprofile, hspike, hp, hq, learnOffset_eq]
  · rcases h with h | h | h <;> simp [zoneAtPeriod, h]

/-! ### Timers at their ends -/

section
variable {m : ZoneMeasurement}

theorem valid_iff {c : Channel} : c.valid = true ↔ ∃ n, c.timer = .running n := by
  unfold Channel.valid
  cases c.timer <;> simp [Timer.active]

/-- A zone with one of its channels made invalid (R30). -/
def ZoneMeasurement.without (m : ZoneMeasurement) (k : ChannelKind) : ZoneMeasurement :=
  m.setChannel k { m.channel k with timer := .stopped }

variable (m) (k : ChannelKind)

@[simp] theorem without_state : (m.without k).state = m.state := by cases k <;> rfl

theorem without_profile_valid : (m.without k).profile.valid = (decide (k = .spike) && m.profile.valid) := by cases k <;> rfl

theorem without_spike_valid : (m.without k).spike.valid = (decide (k = .profile) && m.spike.valid) := by cases k <;> rfl

theorem without_channel_lastGood (k' : ChannelKind) : ((m.without k).channel k').lastGood = (m.channel k').lastGood := by
  cases k <;> cases k' <;> rfl

/-- While the zone is controlled its measured value does not turn on which channels are valid (R31). -/
theorem without_measured (h : m.state = .normal ∨ m.state = .degraded) : (m.without k).measured = m.measured := by
  rcases h with h | h <;> cases k <;> simp [ZoneMeasurement.measured, ZoneMeasurement.estimate, h] <;> rfl

end

section
variable {s : State} {z : Zone} {k : ChannelKind}

theorem exec_channelTimerExpiry {n : Nat} (h : ((s.zoneM z).channel k).timer = .running n) :
    exec (.channelTimerExpiry z k) s =
      .next (if s.used z then channelLost z k ((s.zoneM z).without k) s else setZone z ((s.zoneM z).without k) s) :=
  congrArg Host.Outcome.next (if_pos (valid_iff.2 ⟨n, h⟩))

variable {m : ZoneMeasurement}

theorem channelLost_of_uncontrolled (h : m.state ∈ [.lostHold, .lost, .overtemp, .unused]) :
    channelLost z k (m.without k) s = setZone z (m.without k) s := by
  have hstate : (m.without k).state.controlled = false := by
    rw [without_state]
    simp only [List.mem_cons, List.not_mem_nil, or_false] at h
    rcases h with h | h | h | h <;> rw [h] <;> rfl
  unfold channelLost
  rw [hstate, if_neg (by decide)]

section
variable (hstate : m.state = .normal ∨ m.state = .degraded)
include hstate

theorem without_controlled : (m.without k).state.controlled = true := by
  rw [without_state]
  rcases hstate with h | h <;> rw [h] <;> rfl

/-- The zone's last valid channel is lost (R34). -/
theorem channelLost_of_last (hother : (m.channel (if k = .profile then .spike else .profile)).valid = false) :
    channelLost z k (m.without k) s =
      setZone z { m.without k with state := .lostHold, lastMeasured := m.measured, holdTimer := .running 10000 } s := by
  have hboth : (!(m.without k).profile.valid && !(m.without k).spike.valid) = true := by
    rw [without_profile_valid, without_spike_valid]
    cases k <;> simpa [ZoneMeasurement.channel] using hother
  have hne : ZoneState.lostHold ≠ (m.without k).state := by
    rw [without_state]
    rcases hstate with h | h <;> rw [h] <;> decide
  unfold channelLost
  rw [if_pos (without_controlled hstate), if_pos hboth, enterZoneState, if_pos ⟨without_controlled hstate, hne⟩,
    without_measured m k hstate]
  rfl

theorem not_both_invalid (hother : (m.channel (if k = .profile then .spike else .profile)).valid = true) :
    ¬ (!(m.without k).profile.valid && !(m.without k).spike.valid) = true := by
  rw [without_profile_valid, without_spike_valid]
  cases k <;> simpa [ZoneMeasurement.channel] using hother

end

section
variable (hother : (m.channel (if k = .profile then .spike else .profile)).valid = true)
include hother

/-- A NORMAL zone loses one of two channels: it is reported, and the loss of the profile channel degrades the zone (R32, R33). -/
theorem channelLost_of_normal (hstate : m.state = .normal) {v : Int} (hv : (m.channel k).lastGood = some v) :
    channelLost z k (m.without k) s = reportFault .channelFailed (.channel z k) (.number v) (setZone z
      (if k = .profile then { m.without k with state := .degraded, lastMeasured := m.measured } else m.without k) s) := by
  have hvalue : faultValue ((m.without k).channel k).lastGood = .number v := by rw [without_channel_lastGood, hv]; rfl
  have hdegraded : enterZoneState .degraded (m.without k) = { m.without k with state := .degraded, lastMeasured := m.measured } := by
    rw [enterZoneState, if_pos ⟨without_controlled (.inl hstate), by rw [without_state, hstate]; decide⟩,
      without_measured m k (.inl hstate)]
  unfold channelLost
  rw [if_pos (without_controlled (.inl hstate)), if_neg (not_both_invalid (.inl hstate) hother), without_state, hstate, ← hdegraded,
    ← hvalue]
  cases k <;> rfl

/-- A DEGRADED zone has no profile channel to lose beside a valid spike channel, and loses nothing else by it (R33). -/
theorem channelLost_of_degraded (hstate : m.state = .degraded) : channelLost z k (m.without k) s = setZone z (m.without k) s := by
  unfold channelLost
  rw [if_pos (without_controlled (.inr hstate)), if_neg (not_both_invalid (.inr hstate) hother), without_state, hstate]

end
end

/-- Settles O43: the measured value by its table, a lost channel by the zone's state and the other channel. -/
theorem zoneTimersExpire : Obligations.ZoneTimersExpire := by
  refine ⟨fun m c => ⟨valid_iff, fun h => ?_, fun h => ?_, fun h => ⟨fun hp => ?_, fun hp hs => ?_, fun hp hs => ?_⟩, fun h => ?_⟩, ?_⟩
  · simp [ZoneMeasurement.measured, h]
  · simp [ZoneMeasurement.measured, h, ZoneMeasurement.estimate]
  · simp [ZoneMeasurement.measured, h, hp]
  · simp [ZoneMeasurement.measured, h, hp, hs, ZoneMeasurement.estimate]
  · simp [ZoneMeasurement.measured, h, hp, hs]
  · rcases h with h | h | h <;> simp [ZoneMeasurement.measured, h]
  intro s z k n m put lost other
  refine ⟨fun htimer => ⟨fun h => ?_, fun hused hstate hother => ?_, fun hused hstate hother v hv => ?_, fun hused hstate hother => ?_⟩,
    fun h => congrArg Host.Outcome.next (if_neg (by simp [show ((s.zoneM z).channel k).valid = false from h])), fun hstate htimer => ?_,
    fun hstate => congrArg Host.Outcome.next (if_neg fun h => hstate h.1)⟩
  · rw [exec_channelTimerExpiry htimer]
    rcases h with h | h
    · rw [if_neg (by simp [h])]; rfl
    · rw [channelLost_of_uncontrolled h, ite_self]; rfl
  · rw [exec_channelTimerExpiry htimer, if_pos hused, channelLost_of_last hstate hother]
    rfl
  · rw [exec_channelTimerExpiry htimer, if_pos hused, channelLost_of_normal hother hstate hv]
    cases k <;> rfl
  · rw [exec_channelTimerExpiry htimer, if_pos hused, channelLost_of_degraded hother hstate]
    rfl
  · refine congrArg Host.Outcome.next ((if_pos ⟨hstate, by rw [htimer]; rfl⟩).trans ?_)
    show reportFault .zoneLost (.zone z) (faultValue m.lastMeasured) _ = _
    unfold faultValue
    cases m.lastMeasured <;> rfl

/-! ### The field link receiver (R199) -/

theorem fieldTake_more {got : List Byte} (h : got.length < 3) (b : Byte) : fieldTake (some got) b = (some (got ++ [b]), none) := by
  match got with
  | [] | [_] | [_, _] => rfl
  | _ :: _ :: _ :: _ => exact absurd h (by simp)

theorem fieldTake_last (b1 b2 b3 b : Byte) : fieldTake (some [b1, b2, b3]) b =
    if b1 + b2 + b3 + b = 0 then (none, some (.record b1 b2 b3)) else (rehunt [b1, b2, b3, b], some .bad) := by
  simp [fieldTake, byteSum]

/-- A hunting receiver fed a whole record gives the record, or a failed check and the hunt from its second byte (R199). -/
theorem fieldFeed_record (b1 b2 b3 b4 : Byte) : fieldFeed none [0xE5, b1, b2, b3, b4] =
    if b1 + b2 + b3 + b4 = 0 then (none, [.record b1 b2 b3]) else (rehunt [b1, b2, b3, b4], [.bad]) := by
  have hstart : fieldTake none 0xE5 = (some [], none) := rfl
  simp only [fieldFeed, hstart, fieldTake_more (got := []) (by simp), fieldTake_more (got := [b1]) (by simp),
    fieldTake_more (got := [b1, b2]) (by simp), List.nil_append, List.cons_append, fieldTake_last]
  split <;> rfl

theorem rehunt_of_start {got : List Byte} (h : ∀ x ∈ got, x ≠ 0xE5) (rest : List Byte) :
    rehunt (got ++ 0xE5 :: rest) = some rest := by
  rw [rehunt, List.dropWhile_append_of_pos (by simpa using h)]
  rfl

theorem rehunt_of_no_start {got : List Byte} (h : ∀ x ∈ got, x ≠ 0xE5) : rehunt got = none := by
  rw [rehunt, List.dropWhile_eq_nil_iff.2 (by simpa using h)]

/-! ### A sample taken -/

theorem channelUse_thermocouple (z : Zone) (k : ChannelKind) :
    channelUse (z.index + if k = ChannelKind.spike then 5 else 0) = .thermocouple z k := by
  cases z <;> cases k <;> rfl

theorem channelUse_readback (l : GasLine) : channelUse (lineChannel l) = .readback l := by cases l <;> rfl

theorem channelUse_nothing {n : Nat} (h : 13 ≤ n) : channelUse n = .nothing := by
  obtain ⟨m, rfl⟩ : ∃ m, n = m + 13 := ⟨n - 13, by omega⟩
  rfl

section
variable {s : State} {b1 b2 b3 b4 : Byte}

theorem exec_sampleRecord_bad (hr : s.released = true) (hrx : s.zm.rx = none) (hsum : b1 + b2 + b3 + b4 ≠ 0) :
    exec (.sampleRecord b1 b2 b3 b4) s = .next (countCheckError { s with zm := { s.zm with rx := rehunt [b1, b2, b3, b4] } }) := by
  refine congrArg Host.Outcome.next ((if_pos hr).trans ?_)
  rw [receiveField, hrx, fieldFeed_record, if_neg hsum]
  rfl

theorem exec_sampleRecord_good (hr : s.released = true) (hrx : s.zm.rx = none) (hsum : b1 + b2 + b3 + b4 = 0) :
    exec (.sampleRecord b1 b2 b3 b4) s = .next (takeRecord s (.record b1 b2 b3)) := by
  have hsame : ({ s with zm := { s.zm with rx := none } } : State) = s := by rw [← hrx]
  refine congrArg Host.Outcome.next ((if_pos hr).trans ?_)
  rw [receiveField, hrx, fieldFeed_record, if_pos hsum]
  exact congrArg (takeRecord · (.record b1 b2 b3)) hsame

theorem takeRecord_of_unknown (hst : sampleStatus b1 = none) : takeRecord s (.record b1 b2 b3) = countCheckError s := by
  simp only [takeRecord, hst]

section
variable {st : SampleStatus} (hst : sampleStatus b1 = some st)
include hst

theorem takeRecord_of_ignored (hc : 13 ≤ sampleChannel b1) :
    takeRecord s (.record b1 b2 b3) = { s with zm.ignored := satSucc Config.count16 s.zm.ignored } := by
  simp only [takeRecord, hst, channelUse_nothing hc]

theorem takeRecord_of_line {l : GasLine} (hc : sampleChannel b1 = lineChannel l) :
    takeRecord s (.record b1 b2 b3) = takeReadback l st (sampleValue b2 b3) s := by
  simp only [takeRecord, hst, hc, channelUse_readback]

theorem takeRecord_of_zone {z : Zone} {k : ChannelKind} (hc : sampleChannel b1 = z.index + if k = ChannelKind.spike then 5 else 0) :
    takeRecord s (.record b1 b2 b3) = takeSample z k st (sampleValue b2 b3) s := by
  simp only [takeRecord, hst, hc, channelUse_thermocouple]

end
end

section
variable {s : State} {z : Zone} {k : ChannelKind} {st : SampleStatus} {v : Int}

theorem takeSample_of_poor (h : decide (st = .ok ∧ -500 ≤ v ∧ v ≤ 16000) = false) : takeSample z k st v s =
    setZone z ((s.zoneM z).setChannel k { (s.zoneM z).channel k with status := if st = .ok then .range else st }) s := by
  rw [takeSample, if_neg (by simpa [goodTemperature] using h)]

theorem takeSample_of_good (h : decide (st = .ok ∧ -500 ≤ v ∧ v ≤ 16000) = true) : takeSample z k st v s = goodSample z k v s := by
  rw [takeSample, if_pos (by simpa [goodTemperature] using h)]

/-- A zone with a good sample just taken into one of its channels (R29). -/
def ZoneMeasurement.sampled (m : ZoneMeasurement) (k : ChannelKind) (v : Int) : ZoneMeasurement :=
  m.setChannel k ⟨.ok, some v, some 0, .running 2000⟩

@[simp] theorem sampled_state (m : ZoneMeasurement) (k : ChannelKind) (v : Int) : (m.sampled k v).state = m.state := by cases k <;> rfl

theorem sampled_measured_of_profile {m : ZoneMeasurement} (h : m.state = .degraded) (v : Int) :
    (m.sampled .profile v).measured = m.measured := by
  simp only [ZoneMeasurement.measured, sampled_state, h]
  rfl

theorem goodSample_of_unused (h : s.used z = false) : goodSample z k v s = setZone z ((s.zoneM z).sampled k v) s := by
  unfold goodSample
  rw [h]
  rfl

theorem goodSample_within (h : s.used z = true) (hv : v ≤ s.image.zoneLimit) : goodSample z k v s =
    setZone z (if ((s.zoneM z).channel k).valid then (s.zoneM z).sampled k v else channelRecovered k ((s.zoneM z).sampled k v)) s := by
  unfold goodSample
  dsimp only
  rw [if_pos h, if_neg (by omega)]
  rfl

theorem goodSample_above (h : s.used z = true) (hv : s.image.zoneLimit < v) :
    goodSample z k v s = enterOvertemp z v ((s.zoneM z).sampled k v) s := by
  unfold goodSample
  dsimp only
  rw [if_pos h, if_pos (by omega)]
  rfl

variable {m : ZoneMeasurement}

theorem channelRecovered_nothing (h : m.state ∈ [.normal, .overtemp, .unused] ∨ m.state = .degraded ∧ k = .spike) :
    channelRecovered k (m.sampled k v) = m.sampled k v := by
  unfold channelRecovered
  rw [sampled_state]
  simp only [List.mem_cons, List.not_mem_nil, or_false] at h
  rcases h with (h | h | h) | ⟨h, rfl⟩ <;> rw [h]

theorem channelRecovered_profile (h : m.state = .degraded) : channelRecovered .profile (m.sampled .profile v) =
    { m.sampled .profile v with state := .normal, lastMeasured := m.measured } := by
  unfold channelRecovered
  rw [sampled_state, h]
  dsimp only
  rw [enterZoneState, sampled_state, h, if_pos ⟨rfl, by decide⟩, sampled_measured_of_profile h]

theorem channelRecovered_lost (h : m.state = .lostHold ∨ m.state = .lost) : channelRecovered k (m.sampled k v) =
    { m.sampled k v with state := if k = .profile then .normal else .degraded, holdTimer := .stopped } := by
  unfold channelRecovered
  rw [sampled_state]
  rcases h with h | h <;> rw [h] <;> cases k <;> rfl

theorem enterOvertemp_again (h : m.state = .overtemp) : enterOvertemp z v (m.sampled k v) s = setZone z (m.sampled k v) s := by
  rw [enterOvertemp, if_pos (by rw [sampled_state, h])]

theorem enterOvertemp_first (h : m.state ≠ .overtemp) : enterOvertemp z v (m.sampled k v) s =
    reportFault .overtemp (.zone z) (.number v) (setZone z { m.sampled k v with
      state := .overtemp, holdTimer := .stopped
      lastMeasured :=
        if m.state = .normal then (m.sampled k v).profile.lastGood
        else if m.state = .degraded then (m.sampled k v).spike.lastGood.map (· + m.offset)
        else m.lastMeasured } s) := by
  have hlast : (enterZoneState .overtemp (m.sampled k v)).lastMeasured =
      if m.state = .normal then (m.sampled k v).profile.lastGood
      else if m.state = .degraded then (m.sampled k v).spike.lastGood.map (· + m.offset)
      else m.lastMeasured := by
    unfold enterZoneState
    dsimp only
    rw [sampled_state]
    have hoffset : (m.sampled k v).offset = m.offset := by cases k <;> rfl
    have hkept : (m.sampled k v).lastMeasured = m.lastMeasured := by cases k <;> rfl
    cases hstate : m.state <;>
      simp [ZoneState.controlled, ZoneMeasurement.measured, ZoneMeasurement.estimate, hstate, hoffset, hkept]
  rw [enterOvertemp, if_neg (by rw [sampled_state]; exact h), ← hlast]
  rfl

end

/-- Settles O42: a record reaches the receiver's output, the table of its channel, and its channel's good or poor sample. -/
theorem sampleTaken : Obligations.SampleTaken := by
  refine ⟨fun s b1 b2 b3 b4 hr => congrArg Host.Outcome.next (if_neg (by simp [hr])),
    fun s b1 b2 b3 b4 hr => congrArg Host.Outcome.next (if_pos hr), fun got b => ⟨fun h => fieldTake_more h b, ?_, ?_, ?_, fun rest h =>
      ⟨rehunt_of_start h rest, rehunt_of_no_start h⟩⟩, ?_⟩
  · rintro b1 b2 b3 rfl
    exact ⟨fun h => (fieldTake_last b1 b2 b3 b).trans (if_pos h), fun h => (fieldTake_last b1 b2 b3 b).trans (if_neg h)⟩
  · rintro rfl; rfl
  · exact fun h => by rw [fieldTake, if_neg h]
  intro s b1 b2 b3 b4 hr hrx v counted
  refine ⟨exec_sampleRecord_bad hr hrx, fun hsum => ⟨fun hst => ?_, fun st hst => ?_⟩⟩
  · rw [exec_sampleRecord_good hr hrx hsum, takeRecord_of_unknown hst]; rfl
  intro good
  refine ⟨fun hc => ?_, fun l hc => ?_, fun z k hc => ?_⟩
  · rw [exec_sampleRecord_good hr hrx hsum, takeRecord_of_ignored hst hc]; rfl
  · rw [exec_sampleRecord_good hr hrx hsum, takeRecord_of_line hst hc]; rfl
  intro m put fresh
  rw [exec_sampleRecord_good hr hrx hsum, takeRecord_of_zone hst hc]
  refine ⟨fun hpoor => congrArg Host.Outcome.next (takeSample_of_poor hpoor), fun hgood hused => ?_, fun hgood hused hv => ?_,
    fun hgood hused hv => ⟨fun h => ?_, fun h => ?_⟩⟩
  · rw [takeSample_of_good hgood, goodSample_of_unused hused]; rfl
  · rw [takeSample_of_good hgood, goodSample_within hused hv]
    refine ⟨fun h => ?_, fun hinvalid h hk => ?_, fun hinvalid h => ?_⟩
    · by_cases hvalid : (m.channel k).valid = true
      · rw [if_pos hvalid]; rfl
      · rw [if_neg hvalid, channelRecovered_nothing (h.resolve_left hvalid)]; rfl
    · subst hk
      rw [if_neg (by simpa using hinvalid), channelRecovered_profile h]; rfl
    · rw [if_neg (by simpa using hinvalid), channelRecovered_lost h]; rfl
  · rw [takeSample_of_good hgood, goodSample_above hused hv, enterOvertemp_again h]; rfl
  · rw [takeSample_of_good hgood, goodSample_above hused hv, enterOvertemp_first h]; rfl

end Sys2Proof.Machine
end

section
/-!
PROOF. Heater outputs (R62, R64), applied flows and PURGE-DONE (R71, R72, R79), the gas lines' own events (R75, R76), the levels on the
field link (R198), and SEAL (R72, R73).
-/
namespace Sys2Proof.Machine

/-! ### Heater outputs -/

theorem perZone_get_set_self {α : Type} (p : PerZone α) (z : Zone) (x : α) : (p.set z x).get z = x := by cases z <;> rfl

section
variable {s : State} {z : Zone}

theorem appliedDrive_of_off (h : s.released = false ∨ s.used z = false) : s.appliedDrive z = 0 := by
  rcases h with h | h <;> simp [State.appliedDrive, h]

theorem heaterHigh_iff {t : Nat} (h : (s.zoneC z).window = .running t) : s.heaterHigh z = true ↔ t % 1000 < s.appliedDrive z := by
  unfold State.heaterHigh
  rw [h]
  exact decide_eq_true_iff

theorem heaterHigh_of_not_running (h : ∀ e, (s.zoneC z).window ≠ .running e) : s.heaterHigh z = false := by
  unfold State.heaterHigh
  split
  · next e he => exact absurd he (h e)
  · rfl

/-- A window set leaves its zone's drive as it was (R62, R64). -/
theorem setWindow_appliedDrive (w : Window) : (setWindow z w s).appliedDrive z = s.appliedDrive z := by
  cases z <;> rfl

theorem setWindow_window (w : Window) : ((setWindow z w s).zoneC z).window = w :=
  congrArg ZoneControl.window (perZone_get_set_self _ z _)

end

/-- Settles O47: the drive by its definition, the outputs by the time since the window's start. -/
theorem heaterOutputs : Obligations.HeaterOutputs := by
  intro s z
  refine ⟨fun hr hused => ⟨fun h => ?_, fun h => ?_⟩, fun h => ⟨appliedDrive_of_off h, ?_⟩, fun e => heaterHigh_iff,
    heaterHigh_of_not_running, fun hr => ⟨_, congrArg Host.Outcome.next (if_pos hr), rfl, ?_⟩, fun e he hlt => ?_⟩
  · simp [State.appliedDrive, hr, hused, h]
  · simp [State.appliedDrive, hr, hused, Nat.not_le.2 h]
  · unfold State.heaterHigh
    rw [appliedDrive_of_off h]
    split <;> simp
  · rw [heaterHigh_iff (setWindow_window _), setWindow_appliedDrive]
  · refine ⟨setWindow z (.running (s.appliedDrive z)) s, ?_, rfl, fun hdrive => ⟨?_, ?_⟩⟩
    · refine congrArg Host.Outcome.next ?_
      rw [he]
      exact if_pos hlt
    · rw [heaterHigh_iff he, Nat.mod_eq_of_lt (by omega)]
      exact hlt
    · rw [Bool.eq_false_iff, Ne, heaterHigh_iff (setWindow_window _), setWindow_appliedDrive, Nat.mod_eq_of_lt hdrive]
      exact lt_irrefl _

/-! ### Flows -/

/-- Settles O49: the flow of each line is its case of `appliedFlow`. -/
theorem flowsApplied : Obligations.FlowsApplied := by
  refine fun s => ⟨fun hr => ⟨?_, ?_, ?_, ?_⟩, fun hr l => appliedFlow_of_unreleased hr l, purgeDone_iff⟩
  · simp [State.appliedFlow, hr]
  · simp [State.appliedFlow, hr]
  · simp [State.oxidantPermit, State.capSealed, State.boatFullIn, State.oxidantEnabled, hr, and_assoc]
  · simp [State.appliedFlow, hr]

/-! ### SEAL -/

section
variable {s : State}

theorem appliedFlow_oxidant_of_unsealed (h : s.pins.sealed = false) : s.appliedFlow .oxidant = 0 := by
  simp [State.appliedFlow, State.oxidantPermit, State.capSealed, h]

theorem sealLossReported_iff : s.sealLossReported = true ↔
    s.released = true ∧ (s.rs.run = .running ∨ s.rs.run = .starved) ∧ 0 < (s.line .oxidant).commanded := by
  simp [State.sealLossReported, and_assoc]

theorem exec_sealDeassert (h : s.pins.sealed = true) : exec .sealDeassert s = .next (
    if s.sealLossReported then
      reportFault .sealLost .none (.number (s.line .oxidant).commanded) (commit s { s with pins.sealed := false })
    else commit s { s with pins.sealed := false }) := congrArg Host.Outcome.next (if_pos h)

/-- A fault of hold class that holds the run, reactions apart (R19, R161). -/
theorem reportFault_hold_withoutReactions {k : FaultKind} {subject : FaultSubject} {value : FaultValue} {s0 s1 : State}
    (hclass : faultClass k subject = .hold) (hrun : s1.rs.run = .running ∨ s1.rs.run = .starved) :
    (reportFault k subject value (commit s0 s1)).withoutReactions = { s1 with
      rs := { s1.rs with run := .held, prior := priorOf s1.rs.run }
      fl := placeFault ⟨k, .hold, subject, s1.rs.labelInForce, some s1.rs.clock, value⟩ s1.fl }.withoutReactions := by
  have hrecord : formRecord k subject value s1.rs = ⟨k, .hold, subject, s1.rs.labelInForce, some s1.rs.clock, value⟩ := by
    have hne : s1.rs.run ≠ .idle := by rcases hrun with h | h <;> rw [h] <;> decide
    rw [formRecord, hclass, if_neg hne, if_neg hne]
  rw [reportFault_of_hold _ _ _ _ hclass (by rw [commit_rs]; exact hrun), enterHeld, commit_withoutReactions, ← hrecord]
  exact congrArg (fun u : State => { u with
    rs := { u.rs with run := .held, prior := priorOf u.rs.run }, fl := placeFault (formRecord k subject value u.rs) u.fl })
    (commit_withoutReactions s0 s1)

end

/-- Settles O51: the pin and the flow change first, and the fault then holds the run. -/
theorem sealEvents : Obligations.SealEvents := by
  intro s
  refine ⟨⟨_, rfl, commit_withoutReactions _ _⟩, fun hsealed => ⟨_, exec_sealDeassert hsealed, ?_⟩,
    fun hopen => congrArg Host.Outcome.next (if_neg (by simp [hopen]))⟩
  have hpins : (if s.sealLossReported then
      reportFault .sealLost .none (.number (s.line .oxidant).commanded) (commit s { s with pins.sealed := false })
      else commit s { s with pins.sealed := false }).pins.sealed = false := by
    split <;> simp
  refine ⟨hpins, appliedFlow_oxidant_of_unsealed hpins, fun hr hrun hflow => ?_, fun h => ?_⟩
  · rw [if_pos (sealLossReported_iff.2 ⟨hr, hrun, hflow⟩)]
    refine ⟨reportFault_hold_withoutReactions rfl hrun, ?_, reportFault_fl_and_event.2⟩
    rw [reportFault_of_hold _ _ _ _ rfl (by rw [commit_rs]; exact hrun)]
    exact mem_commit_events _ (mem_raiseEvent.2 (.inl rfl))
  · have hno : ¬ s.sealLossReported = true := by
      rw [sealLossReported_iff]
      rintro ⟨h1, h2, h3⟩
      rcases h with h | h | h
      · rw [h] at h1; cases h1
      · rcases h2 with h2 | h2 <;> simp [h2] at h
      · omega
    rw [if_neg hno]
    exact commit_withoutReactions _ _

/-! ### Setpoint records and the field link -/

/-- In equal pieces one after the other, each index stands in its own piece. -/
theorem getD_flatMap_of_length {α β : Type} {f : α → List β} {k : Nat} (hf : ∀ x, (f x).length = k) (d : β) (l : List α) (i j : Nat)
    (hj : j < k) : (l.flatMap f).getD (k * i + j) d = ((l[i]?).map fun x => (f x).getD j d).getD d := by
  induction l generalizing i with
  | nil => simp
  | cons x l ih =>
    rw [List.flatMap_cons]
    cases i with
    | zero => rw [Nat.mul_zero, Nat.zero_add, List.getD_append _ _ _ _ (by rw [hf]; exact hj)]; simp
    | succ i =>
      rw [List.getD_append_right _ _ _ _ (by rw [hf, Nat.mul_succ]; omega), hf,
        show k * (i + 1) + j - k = k * i + j by rw [Nat.mul_succ]; omega, ih]
      simp

theorem fieldChar_length (b : Byte) : (fieldChar b).length = 10 := rfl

section
variable (r : SetpointRecord)

theorem setpointBytes_eq : setpointBytes r = (0xE5 : Byte) :: ([BitVec.ofNat 8 (lineChannel r.line * 16), BitVec.ofNat 8 (r.flow >>> 8),
    BitVec.ofNat 8 r.flow] ++ [0 - byteSum [BitVec.ofNat 8 (lineChannel r.line * 16), BitVec.ofNat 8 (r.flow >>> 8),
    BitVec.ofNat 8 r.flow]]) := rfl

theorem byteSum_setpointBytes : byteSum (setpointBytes r).tail = 0 := by
  rw [setpointBytes_eq, List.tail_cons, byteSum_append_singleton]
  simp

theorem at2_setpointBytes (h : r.flow < 65536) : at2 (setpointBytes r) 2 = r.flow := by
  have hhi : (BitVec.ofNat 8 (r.flow >>> 8)).toNat = r.flow / 256 := by
    rw [BitVec.toNat_ofNat, Nat.shiftRight_eq_div_pow]
    omega
  have hlo : (BitVec.ofNat 8 r.flow).toNat = r.flow % 256 := BitVec.toNat_ofNat r.flow 8
  show (BitVec.ofNat 8 (r.flow >>> 8)).toNat * 256 + (BitVec.ofNat 8 r.flow).toNat = r.flow
  rw [hhi, hlo]
  omega

theorem fltx_length : r.fltx.length = 50 := by simp [SetpointRecord.fltx, fieldChar_length, setpointBytes_eq]

/-- The `j`-th level of the `i`-th byte of a setpoint record on FLTX (R198). -/
theorem fltx_getD {i j : Nat} (hi : i < 5) (hj : j < 10) :
    r.fltx.getD (10 * i + j) true = (fieldChar (byteAt (setpointBytes r) i)).getD j true := by
  have hlen : i < (setpointBytes r).length := by rw [setpointBytes_eq]; exact hi
  rw [SetpointRecord.fltx, getD_flatMap_of_length fieldChar_length true _ i j hj, List.getElem?_eq_getElem hlen, byteAt,
    List.getD_eq_getElem _ _ hlen]
  rfl

end

theorem fieldChar_getD_data (b : Byte) {j : Nat} (hj : j < 8) : (fieldChar b).getD (1 + j) true = b.getLsbD j := by
  match j, hj with
  | 0, _ | 1, _ | 2, _ | 3, _ | 4, _ | 5, _ | 6, _ | 7, _ => rfl

theorem ofBoolListLE_bits (b : Byte) : BitVec.ofBoolListLE [b.getLsbD 0, b.getLsbD 1, b.getLsbD 2, b.getLsbD 3, b.getLsbD 4, b.getLsbD 5,
    b.getLsbD 6, b.getLsbD 7] = b := by
  revert b; decide +kernel

/-- Characters read give back the bytes they carry (R198). -/
theorem fieldBytes_flatMap_fieldChar (bytes : List Byte) : fieldBytes (bytes.flatMap fieldChar) = bytes := by
  induction bytes with
  | nil => rfl
  | cons b bytes ih =>
    have hchar (rest : List Bool) : fieldBytes (fieldChar b ++ rest) = BitVec.ofBoolListLE [b.getLsbD 0, b.getLsbD 1, b.getLsbD 2,
        b.getLsbD 3, b.getLsbD 4, b.getLsbD 5, b.getLsbD 6, b.getLsbD 7] :: fieldBytes rest := rfl
    rw [List.flatMap_cons, hchar, ih]
    exact congrArg (· :: bytes) (ofBoolListLE_bits b)

/-- Settles O50: each timer and the send by their branches, the levels character by character. -/
theorem gasLineEvents : Obligations.GasLineEvents := by
  refine ⟨fun s l n => ⟨fun h => ?_, fun rest hq => ?_, fun hq => ?_, fun h => ?_⟩, fun r => ⟨rfl, rfl, byteSum_setpointBytes r, ?_,
    at2_setpointBytes r⟩, fun s => ⟨fun h n => ?_, fun r h => ⟨fun n hn => ?_, fun i hi => ?_⟩⟩, fieldBytes_flatMap_fieldChar⟩
  · exact congrArg Host.Outcome.next (if_pos (by rw [LineControl.valid, h]; rfl))
  · refine congrArg Host.Outcome.next ?_
    rw [hq]
    rfl
  · refine congrArg Host.Outcome.next ?_
    rw [hq]
  · exact congrArg Host.Outcome.next (if_pos (by rw [h]; rfl))
  · show (BitVec.ofNat 8 (lineChannel r.line * 16)).toNat / 16 = lineChannel r.line
    cases r.line <;> rfl
  · unfold State.fltxLevel
    rw [h]
  · unfold State.fltxLevel
    rw [h]
    exact List.getD_eq_default _ _ (by rw [fltx_length]; exact hn)
  · unfold State.fltxLevel
    rw [h]
    refine ⟨fltx_getD r hi (j := 0) (by omega), fltx_getD r hi (j := 9) (by omega), fun j hj => ?_⟩
    rw [Nat.add_assoc]
    exact (fltx_getD r hi (by omega)).trans (fieldChar_getD_data _ hj)

end Sys2Proof.Machine
end

section
/-!
PROOF. Boat Drive: its lines (R86, R89 to R91, R100) and the stages of an evaluation (R93 to R97, R101).
-/
namespace Sys2Proof.Machine

/-! ### BD's reaction, whole -/

/-- What BD does after a change: an entry to GATED is told, and the pulse interval timer follows pulsing (R90, R91). -/
theorem boatReact_eq (s0 s1 : State) : boatReact s0 s1 = { s1 with
    bd := { s1.bd with pulse := if s1.pulsing then if s0.pulsing then s1.bd.pulse else some 0
      else if s0.pulsing then none else s1.bd.pulse }
    lp := { s1.lp with events := if s0.motion ≠ .gated ∧ s1.motion = .gated then addEvent .boatGated s1.lp.events
      else s1.lp.events } } := by
  unfold boatReact
  by_cases hg : s0.motion ≠ .gated ∧ s1.motion = .gated
  · simp only [if_pos hg]
    cases s0.pulsing <;> cases s1.pulsing <;> rfl
  · simp only [if_neg hg]
    cases s0.pulsing <;> cases s1.pulsing <;> rfl

/-- The reactions to a change that neither an input of the shares nor an applied flow shows are BD's own. -/
theorem commit_eq_of_boat {s0 s1 : State} (hs : s1.shareInputs = s0.shareInputs) (hf : ∀ l, s1.appliedFlow l = s0.appliedFlow l) :
    commit s0 s1 = { s1 with
      bd := { s1.bd with pulse := if s1.pulsing then if s0.pulsing then s1.bd.pulse else some 0
        else if s0.pulsing then none else s1.bd.pulse }
      lp := { s1.lp with events := if s0.motion ≠ .gated ∧ s1.motion = .gated then addEvent .boatGated s1.lp.events
        else s1.lp.events } } := (commit_eq_boatReact hs hf).trans (boatReact_eq s0 s1)

theorem commit_eq_of_boat_ungated {s0 s1 : State} (hs : s1.shareInputs = s0.shareInputs)
    (hf : ∀ l, s1.appliedFlow l = s0.appliedFlow l) (hg : s1.motion ≠ .gated) : commit s0 s1 = { s1 with
      bd := { s1.bd with pulse := if s1.pulsing then if s0.pulsing then s1.bd.pulse else some 0
        else if s0.pulsing then none else s1.bd.pulse } } := by
  have hnot : ¬ (s0.motion ≠ .gated ∧ s1.motion = .gated) := fun h => hg h.2
  rw [commit_eq_of_boat hs hf, if_neg hnot]

section
variable {s : State}

theorem pulsing_iff : s.pulsing = true ↔ s.motion = .moving ∧ ∃ m, s.bd.move = some m ∧ s.bd.c ≠ m.target := by
  unfold State.pulsing
  cases s.bd.move <;> simp

theorem pulsing_eq_false_of_motion (h : s.motion ≠ .moving) : s.pulsing = false := by simp [State.pulsing, h]

/-- A boat whose gate is not OPEN is in HELD, REST or GATED (R88). -/
theorem motion_of_not_open (h : s.bd.gate ≠ .opened) :
    s.motion = if s.rs.run = .held then .held else if s.bd.move.isNone then .rest else .gated := by
  simp only [State.motion, if_pos h]

theorem motion_ne_moving_of_not_open (h : s.bd.gate ≠ .opened) : s.motion ≠ .moving := by
  rw [motion_of_not_open h]
  split
  · decide
  · split <;> decide

theorem motion_ne_gated_of_open (h : s.bd.gate = .opened) : s.motion ≠ .gated := by
  unfold State.motion
  simp only [h]
  split
  · decide
  · split
    · decide
    · rw [if_neg (by simp)]
      split <;> decide

/-! ### The boat's lines -/

theorem exec_stepPulse {m : BoatPart} (hmove : s.bd.move = some m) (hp : s.pulsing = true) : exec .stepPulse s =
    .next (commit s { s with bd.c := stepToward m.target s.bd.c, bd.pulses := s.bd.pulses + 1, bd.pulse := some 0 }) := by
  refine congrArg Host.Outcome.next ?_
  rw [hmove]
  exact if_pos hp

theorem exec_stepPulse_idle (hp : s.pulsing = false) : exec .stepPulse s = .next s := by
  refine congrArg Host.Outcome.next ?_
  cases s.bd.move with
  | none => rfl
  | some m => exact if_neg (by simp [hp])

/-- A pulse of the stepper, whole: C one nearer, and the interval timer on while C is short of the target (R91). -/
theorem commit_stepPulse {m : BoatPart} (hmotion : s.motion = .moving) (hmove : s.bd.move = some m) (hshort : s.bd.c ≠ m.target) :
    commit s { s with bd.c := stepToward m.target s.bd.c, bd.pulses := s.bd.pulses + 1, bd.pulse := some 0 } =
      { s with bd := { s.bd with
        c := stepToward m.target s.bd.c, pulses := s.bd.pulses + 1
        pulse := if stepToward m.target s.bd.c = m.target then none else some 0 } } := by
  have hp : s.pulsing = true := pulsing_iff.2 ⟨hmotion, m, hmove, hshort⟩
  have hmotion' : State.motion { s with
      bd.c := stepToward m.target s.bd.c, bd.pulses := s.bd.pulses + 1, bd.pulse := some 0 } = .moving := hmotion
  have hp' : State.pulsing { s with bd.c := stepToward m.target s.bd.c, bd.pulses := s.bd.pulses + 1, bd.pulse := some 0 } =
      decide (stepToward m.target s.bd.c ≠ m.target) := by
    unfold State.pulsing
    rw [hmotion', hmove]
    rfl
  rw [commit_eq_of_boat_ungated (by rfl) (fun _ => by rfl) (by rw [hmotion']; decide), hp', hp]
  by_cases h : stepToward m.target s.bd.c = m.target <;> simp [h]

/-- A boat that loses its OPEN gate while a move is under way becomes GATED (R88, R90). -/
theorem gated_by_close {u : State} (hrun : u.rs.run = s.rs.run) (hmove : u.bd.move = s.bd.move) (hgate : u.bd.gate ≠ .opened) :
    s.motion ≠ .gated ∧ u.motion = .gated ↔ s.motion = .moving ∨ s.motion = .droopWait := by
  rw [motion_of_not_open hgate, hrun, hmove]
  unfold State.motion
  by_cases h1 : s.rs.run = .held
  · simp [h1]
  · by_cases h2 : s.bd.move.isNone = true
    · simp [h1, h2]
    · by_cases h3 : s.bd.gate = .opened
      · cases h4 : s.bd.droopWait <;> simp [h1, h2, h3]
      · simp [h1, h2, h3]

theorem commit_loadclrDeassert : commit s { s with pins.loadclr := false, bd.gate := .closed, bd.reclear := .stopped } = { s with
    pins := { s.pins with loadclr := false }
    bd := { s.bd with gate := .closed, reclear := .stopped, pulse := if s.pulsing then none else s.bd.pulse }
    lp := { s.lp with events :=
      if s.motion = .moving ∨ s.motion = .droopWait then addEvent .boatGated s.lp.events else s.lp.events } } := by
  have hgated := gated_by_close (s := s) (u := { s with pins.loadclr := false, bd.gate := .closed, bd.reclear := .stopped }) rfl rfl
    (nofun)
  have hp : State.pulsing { s with pins.loadclr := false, bd.gate := .closed, bd.reclear := .stopped } = false :=
    pulsing_eq_false_of_motion (motion_ne_moving_of_not_open nofun)
  rw [commit_eq_of_boat (by rfl) (fun _ => by rfl), hp, if_congr hgated rfl rfl]
  rfl

theorem commit_reclear (h : s.bd.gate = .reclearing) : commit s { s with bd.gate := .opened, bd.reclear := .stopped } =
    { s with bd := { s.bd with
      gate := .opened, reclear := .stopped
      pulse := if State.pulsing { s with bd.gate := .opened, bd.reclear := .stopped } then some 0 else s.bd.pulse } } := by
  have hp : s.pulsing = false := pulsing_eq_false_of_motion (motion_ne_moving_of_not_open (by rw [h]; decide))
  have hopen : State.motion { s with bd.gate := .opened, bd.reclear := .stopped } ≠ .gated := motion_ne_gated_of_open rfl
  rw [commit_eq_of_boat_ungated (by rfl) (fun _ => by rfl) hopen, hp]
  rfl

/-- A pulse is high from its start for as long as it takes, which is over before the next (R91, R92, log 44). -/
theorem bstepLevel_iff (h : 0 < s.bd.pulses) (us : Nat) : s.bstepLevel us = true ↔ us < stepPulseUs s.bd.pulses := by
  simp [State.bstepLevel, h]

theorem stepPulseUs_range (n : Nat) : 0 < stepPulseUs n ∧ stepPulseUs n ≤ 9999 := by
  unfold stepPulseUs
  have := Nat.mod_lt (Config.pulseWidth n) (show 9999 > 0 by omega)
  omega

theorem countPosition_inward (e : Nat) : countPosition .inward e = if e < 20000 then e + 1 else e := rfl

theorem countPosition_outward (e : Nat) : countPosition .outward e = e - 1 := rfl

/-- The encoder counts inward or outward by the input that changed and the levels after it (R86). -/
theorem takeCount_eq (line : EncoderLine) : takeCount line (toggleEncoder line s.pins) s =
    let pins : Pins := if line = .a then { s.pins with encA := !s.pins.encA } else { s.pins with encB := !s.pins.encB }
    let inward : Bool := if line = .a then pins.encA != pins.encB else pins.encA == pins.encB
    { s with
      pins := pins
      bd := { s.bd with
        dir := if inward then .inward else .outward
        e := if inward then (if s.bd.e < 20000 then s.bd.e + 1 else s.bd.e) else s.bd.e - 1 } } := by
  cases line <;> cases ha : s.pins.encA <;> cases hb : s.pins.encB <;>
    simp [takeCount, toggleEncoder, countDirection, countPosition_inward, countPosition_outward, ha, hb]

end

/-- Settles O52: each line's action is one commit of BD alone, whole. -/
theorem boatLines : Obligations.BoatLines := by
  intro s
  refine ⟨fun line => ?_, fun m hmotion hmove hshort => ?_, exec_stepPulse_idle, fun hr hgate => ?_, fun h => ?_, fun hr => ?_,
    fun hr => ?_, fun n hgate htimer => ?_, fun hgate => ?_, rfl, bstepLevel_of_no_pulse, fun h => ⟨?_, fun us hus => ?_,
    fun us later hle hlater => ?_⟩, ?_⟩
  · intro pins inward
    refine ⟨fun hr => ?_, fun hr => ⟨_, congrArg Host.Outcome.next (if_pos hr), ?_⟩⟩
    · refine congrArg Host.Outcome.next ((if_neg (by simp [hr])).trans ?_)
      cases line <;> rfl
    · rw [commit_withoutReactions, takeCount_eq]
  · rw [exec_stepPulse hmove (pulsing_iff.2 ⟨hmotion, m, hmove, hshort⟩), commit_stepPulse hmotion hmove hshort]
    rfl
  · exact congrArg Host.Outcome.next (if_pos ⟨hr, hgate⟩)
  · exact congrArg Host.Outcome.next (if_neg fun hn => h.elim (fun h => by rw [h] at hn; cases hn.1) fun h => h hn.2)
  · exact congrArg Host.Outcome.next ((if_pos hr).trans commit_loadclrDeassert)
  · exact congrArg Host.Outcome.next (if_neg (by simp [hr]))
  · refine ⟨_, congrArg Host.Outcome.next (if_pos ⟨hgate, by rw [htimer]; rfl⟩), ?_⟩
    rw [commit_pulsing]
    exact commit_reclear hgate
  · exact congrArg Host.Outcome.next (if_neg fun h => hgate h.1)
  · exact (bstepLevel_iff h 0).2 (stepPulseUs_range _).1
  · rw [Bool.eq_false_iff, Ne, bstepLevel_iff h]
    have := (stepPulseUs_range s.bd.pulses).2
    omega
  · rw [bstepLevel_iff h] at hlater ⊢
    omega
  · intro edge
    refine ⟨fun hr hroom => ?_, fun hr hfull => ?_, fun hr => congrArg Host.Outcome.next (if_neg (by simp [hr]))⟩
    · exact congrArg Host.Outcome.next ((if_pos hr).trans (if_pos hroom))
    · exact congrArg Host.Outcome.next ((if_pos hr).trans (if_neg (Nat.not_lt.2 hfull)))

end Sys2Proof.Machine
end

section
/-!
PROOF. The timers of the link (R135, R139 to R142) and the GC period (R74, R77 to R82, log 35).
-/
namespace Sys2Proof.Machine

/-! ### Link timers -/

section
variable {s : State} {n : Nat}

theorem linkState_of_on (h : s.bl.phase = .on) : s.linkState =
    if s.bl.isolated then if s.bl.mute then .isolatedMute else .isolated else if s.bl.mute then .mute else .normal := by
  unfold State.linkState
  rw [h]
  cases s.bl.isolated <;> cases s.bl.mute <;> rfl

theorem exec_silenceTimerExpiry_of_bank (hp : s.bl.phase = .on) (ht : s.bl.silence = .running n) (hb : 1 < s.image.bankSize) :
    exec .silenceTimerExpiry s = .next (raiseEvent .link
      (commit s { s with bl := { s.bl with silence := .expired, isolated := true } })) :=
  congrArg Host.Outcome.next ((if_pos ⟨hp, by rw [ht]; rfl⟩).trans (if_pos hb))

end

/-- Settles O58: each timer by its own branch; only the entry to ISOLATED has reactions. -/
theorem linkTimersExpire : Obligations.LinkTimersExpire := by
  refine ⟨fun s => ⟨fun h => ?_, fun h => ?_, linkState_of_on⟩, fun s n => ⟨fun h => ?_, fun h => ?_, fun hp h => ?_, fun hp => ?_,
    fun hp ht hb => ⟨_, exec_silenceTimerExpiry_of_bank hp ht hb, ?_, ?_⟩, fun hp ht hb => ?_, fun hp => ?_, fun hm h => ?_,
    fun hm => ?_⟩⟩
  · simp [State.linkState, h]
  · simp [State.linkState, h]
  · exact congrArg Host.Outcome.next (if_pos (by rw [h]; rfl))
  · exact congrArg Host.Outcome.next (if_neg (by rw [h]; nofun))
  · exact congrArg Host.Outcome.next (if_pos ⟨hp, by rw [h]; rfl⟩)
  · exact congrArg Host.Outcome.next (if_neg fun h => hp h.1)
  · exact mem_raiseEvent.2 (.inl rfl)
  · rw [raiseEvent_withoutReactions, commit_withoutReactions]
  · exact congrArg Host.Outcome.next ((if_pos ⟨hp, by rw [ht]; rfl⟩).trans (if_neg (Nat.not_lt.2 hb)))
  · exact congrArg Host.Outcome.next (if_neg fun h => hp h.1)
  · exact congrArg Host.Outcome.next (if_pos ⟨hm, by rw [h]; rfl⟩)
  · exact congrArg Host.Outcome.next (if_neg fun h => by simp [hm] at h)

/-! ### The stages of a GC period -/

section
variable {s u : State} {l : GasLine}

theorem lineDeviates_eq (s : State) (l : GasLine) : s.lineDeviates l =
    match (s.line l).valid, (s.line l).lastGood with
    | true, some v =>
      decide (max (s.appliedFlow l * s.image.flowTolerance / 100) 5 < ((v : Int) - s.appliedFlow l).natAbs)
    | _, _ => true := by
  unfold State.lineDeviates
  dsimp only
  cases (s.line l).valid <;> cases (s.line l).lastGood <;> rfl

theorem testLine_of_due (h : deviationTimer (s.lineDeviates l) (u.line l).devTimer = some 10000) (hl : (u.line l).latch = false) :
    testLine s u l = reportFault .flowDeviation (.line l) (readbackValue (s.line l)) (takeWaitingOrder (setLine l { u.line l with
      devTimer := deviationTimer (s.lineDeviates l) (u.line l).devTimer, deviates := s.lineDeviates l, latch := true } u)) :=
  if_pos ⟨h, by simp [hl]⟩

theorem testLine_of_not_due
    (h : deviationTimer (s.lineDeviates l) (u.line l).devTimer ≠ some 10000 ∨ (u.line l).latch = true) :
    testLine s u l = setLine l { u.line l with
      devTimer := deviationTimer (s.lineDeviates l) (u.line l).devTimer, deviates := s.lineDeviates l } u :=
  if_neg fun h' => h.elim (fun h1 => h1 h'.1) fun h2 => by simp [h2] at h'

/-- A line that deviates at every period: the first starts its timer, each later one adds a period (R80). -/
theorem deviationTimer_iterate (n : Nat) : (deviationTimer true)^[n + 1] none = some (min 10000 (500 * n)) := by
  induction n with
  | zero => rfl
  | succ n ih =>
    rw [Function.iterate_succ_apply', ih]
    exact congrArg some (by simp only [Config.deviationMs, Config.periodMs]; omega)

/-- A FLOW-DEVIATION holds the run and gives no abort order (R157, R162). -/
theorem reportFault_flowDeviation_abortOrdered (v : FaultValue) :
    (reportFault .flowDeviation (.line l) v s).rs.abortOrdered = s.rs.abortOrdered := by
  unfold reportFault reportFaultMeeting
  dsimp only
  split
  · simp
  · simp
  · next h => cases h
  · rfl

theorem testLine_order (h : u.rs.abortOrdered = false) : (testLine s u l).rs.abortOrdered = false := by
  by_cases hd : deviationTimer (s.lineDeviates l) (u.line l).devTimer = some 10000 ∧ (u.line l).latch = false
  · rw [testLine_of_due hd.1 hd.2, reportFault_flowDeviation_abortOrdered, takeWaitingOrder_abortOrdered]
  · rw [testLine_of_not_due (by simpa [or_iff_not_imp_left] using hd)]
    exact h

theorem enterIdle_abortOrdered (s : State) : (enterIdle s).rs.abortOrdered = s.rs.abortOrdered := by simp [enterIdle, stopStepTimers]

theorem testAbortPurge_abortOrdered (s : State) : (testAbortPurge s).rs.abortOrdered = s.rs.abortOrdered := by
  unfold testAbortPurge
  split
  · split
    · exact enterIdle_abortOrdered s
    · rfl
  · rfl

theorem purgeStages_abortOrdered (s : State) : (purgeStages s).rs.abortOrdered = s.rs.abortOrdered := by
  refine (testAbortPurge_abortOrdered _).trans ?_
  split
  · rfl
  · exact evaluate_abortOrdered _

theorem gcPasses_order (h : s.rs.abortOrdered = false) : (gcPasses s).rs.abortOrdered = false := by
  have hlines : (GasLine.all.foldl (testLine s) (purgeStages s)).rs.abortOrdered = false :=
    testLine_order (testLine_order (testLine_order ((purgeStages_abortOrdered s).trans h)))
  unfold gcPasses
  split
  · simpa [handPurge] using hlines
  · exact h

/-- Whether an order waits for a GC period or not, RS takes what waits after it (log 35). -/
theorem exec_gcPeriod (s : State) : exec .gcPeriod s = .next (takeWaitingOrder (gcPasses s)) := by
  refine congrArg Host.Outcome.next ?_
  by_cases h : s.rs.abortOrdered = true
  · exact if_pos h
  · have hnone := gcPasses_order (Bool.eq_false_iff.2 h)
    rw [beforeOrder_of_none _ (Bool.eq_false_iff.2 h), takeWaitingOrder, if_neg (Bool.eq_false_iff.1 hnone)]

/-- Stage 2, with the image that a period leaves in force (R79, R82). -/
theorem purgeStages_eq (s : State) {e : State}
    (he : e = if s.purgeDone = (accumulatePurge s).purgeDone then accumulatePurge s else evaluate (accumulatePurge s)) :
    purgeStages s =
      if e.gc.abortPurge && decide (s.image.abortPurgeRequirement * s.image.tubeVolume * 120 ≤ e.gc.acc) then
        if e.rs.run = .aborting then enterIdle e else { e with gc := { e.gc with abortPurge := false } }
      else e := by
  have hcl : e.cl = s.cl := by
    rw [he]
    split
    · rfl
    · exact evaluate_cl _
  have himage : e.image = s.image := congrArg (fun c : Loader => c.image.getD absentImage) hcl
  rw [← himage, he]
  rfl

end

/-- Settles O48: stage by stage, with the reactions of the hand-over and of each fault apart. -/
theorem gasPeriod : Obligations.GasPeriod := by
  refine ⟨fun s hr => ?_, fun s u l => ?_, deviationTimer_iterate⟩
  · intro count s1 e met s2
    have hs2 : purgeStages s = s2 := purgeStages_eq s rfl
    refine ⟨fun hrun hmet => ?_, ?_⟩
    · have he : e = s1 := by
        have hstill : evaluate s1 = s1 := evaluate_of_ne_running (by change s.rs.run ≠ _; rw [hrun]; nofun)
        change (if _ then s1 else evaluate s1) = s1
        rw [hstill, ite_self]
      have hrun' : e.rs.run = .aborting := by rw [he]; exact hrun
      refine ((if_pos ?_).trans (if_pos hrun')).trans (congrArg enterIdle he)
      exact Bool.and_eq_true_iff.2 ⟨hmet.1, decide_eq_true hmet.2⟩
    · intro s3
      refine ⟨_, exec_gcPeriod s, ?_⟩
      have hcl : s3.cl = s.cl := by
        change (testLine s (testLine s (testLine s s2 .purge) .carrier) .oxidant).cl = s.cl
        rw [testLine_cl, testLine_cl, testLine_cl, ← hs2, purgeStages_cl]
      have himage : s3.image = s.image := congrArg (fun c : Loader => c.image.getD absentImage) hcl
      have hpass : gcPasses s = { handPurge s3 with gc.phase := .running 500 } := by
        unfold gcPasses
        rw [if_pos hr, hs2]
        rfl
      have hand : (handPurge s3).withoutReactions = ({ s3 with bu.purge := s3.purgeDemand } : State).withoutReactions :=
        commit_withoutReactions _ _
      rw [hpass, ← himage]
      exact congrArg (fun v : State => { v with gc.phase := .running 500 }) hand
  · intro a deviates timer put
    have hd : deviates = s.lineDeviates l := (lineDeviates_eq s l).symm
    have ht : timer = deviationTimer (s.lineDeviates l) (u.line l).devTimer := by
      change (if deviates then _ else _) = _
      rw [hd]
      rfl
    have hput : ∀ b, put b = setLine l { u.line l with
        devTimer := deviationTimer (s.lineDeviates l) (u.line l).devTimer, deviates := s.lineDeviates l, latch := b } u :=
      fun b => by rw [← ht, ← hd]; rfl
    refine ⟨fun hdue hl => ?_, fun h => ?_⟩
    · rw [testLine_of_due (ht ▸ hdue) hl, hput]
      rfl
    · rw [testLine_of_not_due (ht ▸ h), hput]

end Sys2Proof.Machine
end

section
/-!
PROOF. The BD evaluation: motion state, droop and speed (R86, R88, R91 to R94), the stages (R95 to R97, R101), and the orders and
completions they bring (R162, R163, logs 13 and 35).
-/
namespace Sys2Proof.Machine

/-! ### What an evaluation reads -/

/-- A zone that counts in the droop, with its SP − M (R93). -/
def State.CountsInDroop (s : State) (z : Zone) (d : Int) : Prop :=
  (z = .z1 ∨ z = .z2) ∧ s.used z = true ∧ ((s.zoneM z).state = .normal ∨ (s.zoneM z).state = .degraded) ∧
    ∃ spi m, (s.zoneC z).spi = some spi ∧ (s.zoneM z).measured = some m ∧ d = (spi / 120 : Nat) - m

section
variable {s : State} {z : Zone} {d : Int}

theorem controlled_iff {st : ZoneState} : st.controlled = true ↔ st = .normal ∨ st = .degraded := by cases st <;> simp [ZoneState.controlled]

theorem zoneDroop_eq_some_iff : s.zoneDroop z = some d ↔
    s.used z = true ∧ ((s.zoneM z).state = .normal ∨ (s.zoneM z).state = .degraded) ∧
      ∃ spi m, (s.zoneC z).spi = some spi ∧ (s.zoneM z).measured = some m ∧ d = (spi / 120 : Nat) - m := by
  unfold State.zoneDroop ZoneControl.setpoint
  rw [← and_assoc, ← controlled_iff, ← Bool.and_eq_true]
  by_cases h : (s.used z && (s.zoneM z).state.controlled) = true
  · rw [if_pos h]
    cases (s.zoneC z).spi <;> cases (s.zoneM z).measured <;> simp [h, eq_comm]
  · rw [if_neg h]
    exact iff_of_false nofun fun h' => h h'.1

theorem countsInDroop_iff : s.CountsInDroop z d ↔ (z = .z1 ∨ z = .z2) ∧ s.zoneDroop z = some d :=
  and_congr_right fun _ => zoneDroop_eq_some_iff.symm

/-- The droop is the greatest of the door-end zones that count, 0 where none does (R93). -/
theorem doorDroop_greatest : (∀ z d, s.CountsInDroop z d → d ≤ s.doorDroop) ∧
    ((∃ z d, s.CountsInDroop z d) → ∃ z, s.CountsInDroop z s.doorDroop) ∧
    ((¬ ∃ z d, s.CountsInDroop z d) → s.doorDroop = 0) := by
  simp only [countsInDroop_iff]
  refine ⟨?_, ?_, fun hnone => ?_⟩
  · rintro z d ⟨rfl | rfl, h⟩
    · unfold State.doorDroop
      rw [h]
      cases s.zoneDroop .z2 <;> simp
    · unfold State.doorDroop
      rw [h]
      cases s.zoneDroop .z1 <;> simp
  · rintro ⟨z, d, hz, h⟩
    have hsome : s.zoneDroop .z1 = some s.doorDroop ∨ s.zoneDroop .z2 = some s.doorDroop := by
      unfold State.doorDroop
      cases h1 : s.zoneDroop .z1 with
      | none =>
        cases h2 : s.zoneDroop .z2 with
        | none => rcases hz with rfl | rfl <;> simp_all
        | some b => exact .inr rfl
      | some a =>
        cases h2 : s.zoneDroop .z2 with
        | none => exact .inl rfl
        | some b => exact (max_choice a b).imp (fun h => congrArg some h.symm) fun h => congrArg some h.symm
    exact hsome.elim (fun h => ⟨.z1, .inl rfl, h⟩) fun h => ⟨.z2, .inr rfl, h⟩
  · have hz {z : Zone} (h : z = .z1 ∨ z = .z2) : s.zoneDroop z = none :=
      Option.eq_none_iff_forall_ne_some.2 fun d hd => hnone ⟨z, d, h, hd⟩
    rw [State.doorDroop, hz (.inl rfl), hz (.inr rfl)]

theorem motion_of_held (h : s.rs.run = .held) : s.motion = .held := if_pos h

theorem motion_of_move (h : s.rs.run ≠ .held) (hm : s.bd.move.isSome) :
    (s.bd.gate ≠ .opened → s.motion = .gated) ∧
    (s.bd.gate = .opened → s.bd.droopWait = true → s.motion = .droopWait) ∧
    (s.bd.gate = .opened → s.bd.droopWait = false → s.motion = .moving) := by
  have hmove : s.bd.move ≠ none := Option.isSome_iff_ne_none.1 hm
  refine ⟨fun hg => ?_, fun hg hw => ?_, fun hg hw => ?_⟩
  · simp [State.motion, h, hmove, hg]
  · simp [State.motion, h, hmove, hg, hw]
  · simp [State.motion, h, hmove, hg, hw]

/-- The applied speed and its pulse interval (R92). -/
theorem appliedSpeed_of_move {m : BoatPart} (hm : s.bd.move = some m) (hlo : 10 ≤ m.speed) (hhi : m.speed ≤ 600) : ∃ v,
    s.appliedSpeed = some v ∧ s.pulseInterval = some (6000000 / v) ∧ 2 ≤ v ∧ v ≤ 600 ∧
      v = m.speed * s.bd.factor.quarters / 4 := by
  have hfactor : 1 ≤ s.bd.factor.quarters ∧ s.bd.factor.quarters ≤ 4 := by cases s.bd.factor <;> decide
  have hmin : m.speed * 1 ≤ m.speed * s.bd.factor.quarters := Nat.mul_le_mul_left _ hfactor.1
  have hmax : m.speed * s.bd.factor.quarters ≤ m.speed * 4 := Nat.mul_le_mul_left _ hfactor.2
  refine ⟨m.speed * s.bd.factor.quarters / 4, ?_, ?_, by omega, by omega, rfl⟩
  · simp [State.appliedSpeed, hm]
  · simp [State.pulseInterval, State.appliedSpeed, hm]

end

/-- The rows of the droop table exclude each other (R94). -/
theorem droopRow_rows (f : SpeedFactor) (l : Nat) (d : Int) :
    (d ≤ (l / 2 : Nat) → ∀ w, droopRow w f l d = (.full, false)) ∧
    ((l / 2 : Nat) < d → droopRow true f l d = (f, true)) ∧
    ((l / 2 : Nat) < d → d ≤ (3 * l / 4 : Nat) → droopRow false f l d = (.half, false)) ∧
    ((3 * l / 4 : Nat) < d → d ≤ l → droopRow false f l d = (.quarter, false)) ∧
    (l < d → droopRow false f l d = (f, true)) := by
  refine ⟨fun h w => if_pos h, fun h => ?_, fun h h' => ?_, fun h h' => ?_, fun h => ?_⟩
  · rw [droopRow, if_neg (by omega), if_pos rfl]
  · rw [droopRow, if_neg (by omega), if_neg (by simp), if_pos h']
  · rw [droopRow, if_neg (by omega), if_neg (by simp), if_neg (by omega), if_pos h']
  · rw [droopRow, if_neg (by omega), if_neg (by simp), if_neg (by omega), if_neg (by omega)]

/-! ### The pulse interval timer over a stage (R91) -/

/-- The pulse interval timer starts at 0 where pulsing becomes allowed, stops where it ends, and else runs on. -/
def TimerFollows (s u : State) : Prop :=
  (s.pulsing = false → u.pulsing = true → u.bd.pulse = some 0) ∧ (s.pulsing = true → u.pulsing = false → u.bd.pulse = none) ∧
    (s.pulsing = u.pulsing → u.bd.pulse = s.bd.pulse)

theorem commit_timerFollows {s w u : State} (hw : w.pulsing = s.pulsing) (hpulse : u.bd.pulse = s.bd.pulse) :
    TimerFollows s (commit w u) := by
  unfold TimerFollows
  rw [commit_pulsing, commit_pulse, hw, hpulse]
  cases s.pulsing <;> cases u.pulsing <;> simp

theorem commit_self (s : State) : commit s s = s := commit_eq_self rfl rfl rfl fun _ => rfl

/-! ### A fault that stops the move (R97, R101, R162, R163) -/

section
variable {k : FaultKind} {v : Int} {s u : State}

theorem mem_takeAbortOrder_events {e : EventKind} (h : e ∈ s.lp.events) : e ∈ (takeAbortOrder s).lp.events := by
  unfold takeAbortOrder
  split
  · exact mem_enterAborting_events h
  · exact h

theorem mem_giveAbortOrder_events {e : EventKind} (b : Bool) (h : e ∈ s.lp.events) : e ∈ (giveAbortOrder b s).lp.events := by
  rcases giveAbortOrder_cases b s with h' | ⟨-, -, h' | h'⟩ <;> rw [h']
  · exact mem_takeAbortOrder_events h
  · exact mem_enterAborting_events (s := { s with free := s.free + 1 }) h
  · exact h

theorem enterAborting_move (s : State) : (enterAborting s).bd.move = none := by
  have hbegin : (beginAbort s).bd.move = none := by rw [beginAbort, commit_bd_move]; rfl
  rcases enterAborting_cases s with h | h <;> rw [h]
  · exact hbegin
  · exact (enterIdle_boat _).2.2.trans hbegin

theorem giveAbortOrder_move (b : Bool) (h : s.bd.move = none) : (giveAbortOrder b s).bd.move = none := by
  rcases giveAbortOrder_cases b s with h' | ⟨-, -, h' | h'⟩ <;> rw [h']
  · unfold takeAbortOrder
    split
    · exact enterAborting_move s
    · exact h
  · exact enterAborting_move _
  · exact h

theorem stopMove_of_none (h : s.bd.move = none) : stopMove s = s := if_neg (by rw [h]; nofun)

theorem stopMove_move (s : State) : (stopMove s).bd.move = none := by
  unfold stopMove
  split
  · rfl
  · next h => simpa using h

theorem stopMove_events (s : State) : (stopMove s).lp = s.lp := by unfold stopMove; split <;> rfl

/-- BD's move stopped where the encoder stands, its reactions apart (R97). -/
def State.moveStopped (u : State) : State := if u.bd.move.isSome then
  ({ u with bd := { u.bd with move := none, droopWait := false, c := u.bd.e } } : State) else u

theorem stopMove_withoutReactions (s : State) : (stopMove s).withoutReactions = s.moveStopped.withoutReactions := by
  unfold stopMove State.moveStopped
  split <;> rfl

/-- What a fault that stops the move leaves in `t`, an order that waited in `before` taken first (R97, R101, R162, R163, log 13). -/
def FaultStops (k : FaultKind) (v : Int) (before t : State) : Prop :=
  let u := takeWaitingOrder before
  let f : State := { u with
    fl := placeFault ⟨k, .abort, .none, if u.rs.run = .idle then none else u.rs.labelInForce,
      if u.rs.run = .idle then none else some u.rs.clock, .number v⟩ u.fl
    lp := { u.lp with events := addEvent .fault u.lp.events } }
  t.bd.move = none ∧ .fault ∈ t.lp.events ∧
  (u.bd.move = none → t.withoutReactions = (reportFault k .none (.number v) u).withoutReactions) ∧
  (u.bd.move.isSome →
    (u.rs.run = .idle ∨ u.rs.run = .aborting → t.withoutReactions = f.moveStopped.withoutReactions) ∧
    (u.rs.run ≠ .idle → u.rs.run ≠ .aborting →
      t.withoutReactions = (enterAborting { f with free := f.free + 1 }).withoutReactions ∨
      t.withoutReactions =
        (State.moveStopped { f with rs := { f.rs with abortOrdered := true }, free := f.free + 1 }).withoutReactions))

theorem takeFault_eq_of_abort (hk : faultClass k .none = .abort) : takeFault k .none (.number v) u = { u with
    fl := placeFault ⟨k, .abort, .none, if u.rs.run = .idle then none else u.rs.labelInForce,
      if u.rs.run = .idle then none else some u.rs.clock, .number v⟩ u.fl
    lp := { u.lp with events := addEvent .fault u.lp.events } } := by
  rw [← hk]
  rfl

theorem reportFaultMeeting_of_abort (hk : faultClass k .none = .abort) (b : Bool) :
    reportFaultMeeting b k .none (.number v) u = giveAbortOrder b (takeFault k .none (.number v) u) := by
  simp only [reportFaultMeeting, hk]

theorem faultAndStop_stops (hk : faultClass k .none = .abort) (w before : State) :
    FaultStops k v before (commit w (faultAndStop k (.number v) before)) := by
  unfold FaultStops
  intro u f
  have hf : f = takeFault k .none (.number v) u := (takeFault_eq_of_abort hk).symm
  have ht : faultAndStop k (.number v) before =
      stopMove (giveAbortOrder (u.bd.move.isSome || u.orderMeets) (takeFault k .none (.number v) u)) :=
    congrArg stopMove (reportFaultMeeting_of_abort hk _)
  rw [hf, ht, commit_withoutReactions]
  clear_value f u
  have hmove : (takeFault k .none (.number v) u).bd.move = u.bd.move := rfl
  have hrun : (takeFault k .none (.number v) u).rs.run = u.rs.run := rfl
  have hevent : .fault ∈ (takeFault k .none (.number v) u).lp.events := mem_raiseEvent.2 (.inl rfl)
  refine ⟨?_, mem_commit_events w ?_, fun hnone => ?_, fun hsome => ⟨fun hended => ?_, fun hidle haborting => ?_⟩⟩
  · rw [commit_bd_move, stopMove_move]
  · rw [stopMove_events]
    exact mem_giveAbortOrder_events _ hevent
  · rw [stopMove_of_none (giveAbortOrder_move _ (hmove.trans hnone)), reportFault, reportFaultMeeting_of_abort hk, hnone]
    rfl
  · have hended' : giveAbortOrder true (takeFault k .none (.number v) u) = takeFault k .none (.number v) u := by
      rcases hended with h | h <;> simp [giveAbortOrder, takeAbortOrder, h, RunState.abortable]
    rw [hsome, Bool.true_or, hended', stopMove_withoutReactions]
  · have hgoing : u.rs.run = .running ∨ u.rs.run = .starved ∨ u.rs.run = .held := by
      cases h : u.rs.run <;> simp_all
    rw [hsome, Bool.true_or]
    refine (giveAbortOrder_meeting (s := takeFault k .none (.number v) u) hgoing).imp (fun h => ?_) fun h => ?_
    · rw [h, stopMove_of_none (enterAborting_move _)]
    · rw [h, stopMove_withoutReactions]

end

/-! ### The stages -/

section
variable {s : State}

theorem slips_iff {diff : Int} : s.slips diff = true ↔ s.bd.referenced = true ∧ s.image.slipLimit < diff.natAbs := by
  simp [State.slips]

theorem rebasePosition_eq (diff : Int) (x : Nat) : rebasePosition diff x = (max 0 (min 20000 ((x : Int) - diff))).toNat := by
  rw [rebasePosition, clampInt_eq (by decide)]
  simp only [Config.positionMax]
  omega

theorem markStage_of_mark {m : Mark} {rest : List Mark} (h : s.bd.marks = m :: rest) :
    markStage s = handleMark m { s with bd.marks := rest } := by
  rw [markStage, h]

theorem markStage_of_slip {m : Mark} {rest : List Mark} (h : s.bd.marks = m :: rest) {diff : Int}
    (hdiff : diff = m.position - s.image.pRef) (hs : s.slips diff = true) :
    markStage s = commit { s with bd.marks := rest } (faultAndStop .boatSlip (.number diff) { s with bd := { s.bd with
      marks := rest, lastMark := some ⟨m.position, m.direction, diff, .slip⟩ } }) := by
  rw [markStage_of_mark h, hdiff]
  exact if_pos (hdiff ▸ hs)

theorem markStage_of_rebase {m : Mark} {rest : List Mark} (h : s.bd.marks = m :: rest) {diff : Int}
    (hdiff : diff = m.position - s.image.pRef) (hs : ¬ s.slips diff = true) :
    markStage s = commit { s with bd.marks := rest } { s with bd := { s.bd with
      marks := rest, e := rebasePosition diff s.bd.e, c := rebasePosition diff s.bd.c, referenced := true
      lastMark := some ⟨m.position, m.direction, diff, .rebase⟩ } } := by
  rw [markStage_of_mark h, hdiff]
  exact if_neg (hdiff ▸ hs)

theorem moveTested_iff : s.moveTested = true ↔ s.bd.move.isSome ∧ s.rs.run ≠ .held := by simp [State.moveTested]

theorem evaluateDroop_of_untested (h : ¬ (s.bd.move.isSome ∧ s.rs.run ≠ .held)) : evaluateDroop s = s := by
  unfold evaluateDroop
  split
  · rfl
  · next m hm => exact if_pos (by simpa [hm] using h)

theorem evaluateDroop_pulse (s : State) : (evaluateDroop s).bd.pulse = s.bd.pulse := by
  rcases evaluateDroop_cases s with h | ⟨f, w, d, h⟩ <;> rw [h]

theorem arrivalStage_of_short {m : BoatPart} (hm : s.bd.move = some m)
    (h : s.bd.c ≠ m.target ∨ 5 < s.followingError.natAbs) : arrivalStage s = s := by
  unfold arrivalStage
  rw [testArrival_of_short hm fun h' => h.elim (· h'.1) fun h5 => by omega, commit_self, ite_self]

theorem arrivalStage_of_arrived {m : BoatPart} (hm : s.bd.move = some m) (hrun : s.rs.run ≠ .held) (hc : s.bd.c = m.target)
    (herr : s.followingError.natAbs ≤ 5) : arrivalStage s =
      commit s (raiseEvent .boatArrived { s with bd := { s.bd with move := none, droopWait := false, pulse := none } }) := by
  rw [arrivalStage, if_pos (moveTested_iff.2 ⟨by rw [hm]; rfl, hrun⟩), testArrival_of_arrived hm ⟨hc, herr⟩]

end

/-! ### The evaluation -/

section
variable {s : State}

theorem evaluationStages_pending (hr : s.released = true) : (evaluationStages s).pending = s.pending :=
  (evaluationStages_acts (c := .bdEvaluation) (r := none) rfl hr).keeps (P := fun u => u.pending = s.pending)
    (fun _ _ hact hu => hact.outside.1.trans hu) rfl

theorem evaluate_pending (s : State) : (evaluate s).pending = s.pending := congrArg (·.pending) (evaluate_besideRun s)

/-- The order of an evaluation's own is settled like one that waits, but where it is a free choice again (R162, logs 13 and 35). -/
theorem settleOrder_cases (s : State) : settleOrder s = takeWaitingOrder s ∨
    s.orderMeets = true ∧ s.rs.abortOrdered = true ∧ s.rs.run.abortable = true ∧
      (settleOrder s = enterAborting { s with rs := { s.rs with abortOrdered := false }, free := s.free + 1 } ∨
        settleOrder s = { s with free := s.free + 1 }) := by
  unfold settleOrder takeWaitingOrder
  cases ho : s.rs.abortOrdered with
  | false => exact .inl rfl
  | true =>
    refine (giveAbortOrder_cases s.orderMeets { s with rs.abortOrdered := false }).imp id fun ⟨hm, ha, h⟩ => ⟨hm, rfl, ha, ?_⟩
    refine h.imp id fun h => h.trans ?_
    rw [← ho]

/-- An evaluation, stage by stage (R95). -/
theorem bdEvaluates_eq (hr : s.released = true) {e : State}
    (he : e = if s.boatArrived = (evaluationStages { s with bd := { s.bd with phase := .running 100 } }).boatArrived then
      evaluationStages { s with bd := { s.bd with phase := .running 100 } }
      else evaluate (evaluationStages { s with bd := { s.bd with phase := .running 100 } })) :
    bdEvaluates s = if s.rs.abortOrdered then e else settleOrder e := by
  rw [bdEvaluates, if_pos hr, he]
  rfl

theorem exec_bdEvaluation_cases {e : State} (h : bdEvaluates s = if s.rs.abortOrdered then e else settleOrder e)
    (hpending : e.pending = s.pending) :
    exec .bdEvaluation s = .next (takeWaitingOrder e) ∨
    s.rs.abortOrdered = false ∧ s.orderMeets = true ∧ e.rs.abortOrdered = true ∧ e.rs.run ≠ .idle ∧ e.rs.run ≠ .aborting ∧
      (exec .bdEvaluation s = .next (enterAborting { e with rs := { e.rs with abortOrdered := false }, free := e.free + 1 }) ∨
        exec .bdEvaluation s = .next { e with free := e.free + 1 }) := by
  have hexec : exec .bdEvaluation s = .next (beforeOrder bdEvaluates s) := rfl
  cases ho : s.rs.abortOrdered with
  | true =>
    rw [hexec, beforeOrder, if_pos ho, h, if_pos ho]
    exact .inl rfl
  | false =>
    rw [hexec, beforeOrder_of_none _ ho, h, ho]
    have hmeets : e.orderMeets = s.orderMeets := by simp only [State.orderMeets, hpending]
    refine (settleOrder_cases e).imp (congrArg _) fun ⟨hm, hwait, ha, hcase⟩ =>
      ⟨rfl, hmeets ▸ hm, hwait, ?_, ?_, hcase.imp (congrArg _) (congrArg _)⟩
    · intro hrun; rw [hrun] at ha; cases ha
    · intro hrun; rw [hrun] at ha; cases ha

end

/-- Settles O53: what an evaluation reads, how the stages compose, then each stage by its equation. -/
theorem bdEvaluated : Obligations.BdEvaluated := by
  refine ⟨fun s => ⟨motion_of_held, fun h hm => motion_eq_rest_iff.2 ⟨h, hm⟩, motion_of_move, pulsing_iff, rfl, doorDroop_greatest⟩,
    fun s => ⟨fun hr => ?_, fun hr => ?_⟩, fun s => ?_, droopRow_rows, fun s m hm hlo hhi => ?_⟩
  · have hidle : bdEvaluates s = s := by rw [bdEvaluates, if_neg (by simp [hr])]
    refine congrArg Host.Outcome.next ?_
    rw [beforeOrder, hidle]
    by_cases ho : s.rs.abortOrdered = true
    · exact if_pos ho
    · rw [if_neg ho, takeWaitingOrder, if_neg ho]
  · intro u e off
    refine exec_bdEvaluation_cases (bdEvaluates_eq hr rfl) ?_
    have hu : u.pending = s.pending := evaluationStages_pending (s := { s with bd := { s.bd with phase := .running 100 } }) hr
    change (if _ then u else evaluate u).pending = s.pending
    split
    · exact hu
    · exact (evaluate_pending u).trans hu
  · intro stopped faultStops tested timerFollows
    refine ⟨fun h => ?_, fun m rest h => ⟨fun href hlim => ?_, fun hfit => ?_⟩, fun ht hlim => ?_, fun h => ?_, fun h => ⟨?_, ?_⟩,
      commit_timerFollows rfl (evaluateDroop_pulse s), fun m hm hrun => ⟨fun hc hd => ?_, fun hfree => ?_, fun hc herr => ?_,
      arrivalStage_of_short hm⟩⟩
    · rw [markStage, h]
    · rw [markStage_of_slip h rfl (slips_iff.2 ⟨href, hlim⟩)]
      exact faultAndStop_stops rfl _ _
    · have hslip : ¬ s.slips ((m.position : Int) - s.image.pRef) = true := by
        rw [slips_iff]
        rintro ⟨href, hlim⟩
        rcases hfit with h | h
        · rw [href] at h; cases h
        · exact absurd hlim (Nat.not_lt.2 h)
      rw [markStage_of_rebase h rfl hslip]
      refine ⟨?_, commit_timerFollows rfl rfl⟩
      rw [commit_withoutReactions, rebasePosition_eq, rebasePosition_eq]
    · rw [stallStage, if_pos ⟨moveTested_iff.2 ht, hlim⟩]
      exact faultAndStop_stops rfl _ _
    · exact if_neg fun h' => h.elim (fun h => h (moveTested_iff.1 h'.1)) fun h => Nat.not_lt.2 h h'.2
    · rw [droopStage, evaluateDroop_of_untested h, commit_self]
    · exact if_neg fun h' => h (moveTested_iff.1 h')
    · intro row
      rw [droopStage, commit_withoutReactions, evaluateDroop_of_limited hm hrun ⟨hc, hd⟩]
    · rw [droopStage, commit_withoutReactions, evaluateDroop_of_free hm hrun (by omega)]
    · rw [arrivalStage_of_arrived hm hrun hc herr]
      refine ⟨commit_withoutReactions _ _, mem_commit_events _ (mem_raiseEvent.2 (.inl rfl)), ?_⟩
      have hrest : State.pulsing (raiseEvent .boatArrived { s with bd := { s.bd with
          move := none, droopWait := false, pulse := none } }) = false := by simp [State.pulsing]
      rw [commit_pulse, hrest, if_neg nofun]
      exact ite_self _
  · obtain ⟨v, hv, hi, hlo', hhi', heq⟩ := appliedSpeed_of_move hm hlo hhi
    refine ⟨v, hv, hi, hlo', hhi', heq.trans ?_⟩
    cases s.bd.factor <;> rfl

end Sys2Proof.Machine
end

section
/-!
PROOF. The ZC period: the setpoints (R49 to R53), the raw drives (R57 to R60), demand, floor and want (R61), and settling (R54, R55).
-/
namespace Sys2Proof.Machine

/-! ### Seeding and advance, zone by zone -/

/-- The internal setpoint of a zone after stage 1 (R49). -/
def State.seededSpi (s : State) (z : Zone) : Option Nat :=
  match (s.zoneC z).spi, (s.zoneM z).measured with
  | none, some m => if s.used z then some ((max 0 (min (s.image.zoneLimit : Int) m)).toNat * 120) else none
  | spi, _ => spi

/-- ZC after stage 1. -/
def State.seeds (s : State) : State := mapZoneC (seedZone s) s

/-- The internal setpoint of a zone after stage 2 (R51 to R53). -/
def State.rampedSpi (s : State) (z : Zone) : Option Nat :=
  if s.seeds.frozenBy52 || s.seeds.rampLags then s.seededSpi z
  else (advanceZone s z { s.zoneC z with spi := s.seededSpi z }).spi

section
variable {s : State} {z : Zone}

theorem seedZone_eq (s : State) (z : Zone) : seedZone s z (s.zoneC z) = { s.zoneC z with spi := s.seededSpi z } := by
  have hclamp (m : Int) : (clampInt 0 s.image.zoneLimit m).toNat = (max 0 (min (s.image.zoneLimit : Int) m)).toNat := by
    rw [clampInt_eq (by omega)]; omega
  unfold seedZone State.seededSpi
  cases hspi : (s.zoneC z).spi with
  | some spi => dsimp only; rw [← hspi]
  | none =>
    cases (s.zoneM z).measured with
    | none => dsimp only; rw [← hspi]
    | some m =>
      dsimp only
      rw [hclamp]
      split
      · rfl
      · rw [← hspi]

theorem seeds_zoneC (s : State) (z : Zone) : s.seeds.zoneC z = { s.zoneC z with spi := s.seededSpi z } :=
  (mapZoneC_zoneC _ s z).trans (seedZone_eq s z)

/-- An advance moves the internal setpoint alone (R51). -/
theorem advanceZone_eq (s : State) (z : Zone) (c : ZoneControl) : advanceZone s z c = { c with spi := (advanceZone s z c).spi } := by
  unfold advanceZone
  split
  · split <;> rfl
  · rfl

/-- Stages 1 to 3, zone by zone: the ramped setpoint, then the drive from it (R49 to R60). -/
theorem rampAndDrive_eq (s : State) : rampAndDrive s = { s with zc := { s.zc with
    zones := PerZone.build fun z => driveZone s z { s.zoneC z with spi := s.rampedSpi z }
    rampWait := s.seeds.rampLags, frozen := s.seeds.frozenBy52 } } := by
  have hzones (u : State) (hu : ∀ z, u.zoneC z = { s.zoneC z with spi := s.rampedSpi z })
      (hkept : u = { s with zc := { s.zc with zones := u.zc.zones } }) :
      mapZoneC (driveZone u) { u with zc.rampWait := s.seeds.rampLags, zc.frozen := s.seeds.frozenBy52 } = { s with zc := { s.zc with
        zones := PerZone.build fun z => driveZone s z { s.zoneC z with spi := s.rampedSpi z }
        rampWait := s.seeds.rampLags, frozen := s.seeds.frozenBy52 } } := by
    have hdrive : driveZone u = driveZone s := by rw [hkept]; rfl
    have hbuild : (PerZone.build fun z => driveZone u z (u.zoneC z)) =
        PerZone.build fun z => driveZone s z { s.zoneC z with spi := s.rampedSpi z } := by simp only [hdrive, hu]
    calc _ = { u with zc := { u.zc with
              zones := PerZone.build fun z => driveZone u z (u.zoneC z)
              rampWait := s.seeds.rampLags, frozen := s.seeds.frozenBy52 } } := rfl
      _ = _ := by rw [hbuild]; conv_lhs => rw [hkept]
  unfold rampAndDrive
  dsimp only
  by_cases h : (s.seeds.frozenBy52 || s.seeds.rampLags) = true
  · refine (congrArg (fun u : State => mapZoneC (driveZone u)
      { u with zc.rampWait := s.seeds.rampLags, zc.frozen := s.seeds.frozenBy52 }) (if_pos h)).trans (hzones _ (fun z => ?_) (by rfl))
    rw [State.rampedSpi, if_pos h]
    exact seeds_zoneC s z
  · refine (congrArg (fun u : State => mapZoneC (driveZone u)
      { u with zc.rampWait := s.seeds.rampLags, zc.frozen := s.seeds.frozenBy52 }) (if_neg h)).trans (hzones _ (fun z => ?_) (by rfl))
    rw [State.rampedSpi, if_neg h, mapZoneC_zoneC]
    change advanceZone s z (s.seeds.zoneC z) = _
    rw [seeds_zoneC]
    exact advanceZone_eq s z _

theorem advanceSetpoint_of_near {rate tti spi : Nat} (h : ((tti : Int) - spi).natAbs ≤ rate) : advanceSetpoint rate tti spi = tti := by
  unfold advanceSetpoint
  split <;> split <;> omega

theorem advanceSetpoint_of_far {rate tti spi : Nat} (h : rate < ((tti : Int) - spi).natAbs) :
    advanceSetpoint rate tti spi = if spi < tti then spi + rate else spi - rate := by
  unfold advanceSetpoint
  split <;> split <;> split <;> omega

/-! ### The reasons to stand still (R52, R53) -/

theorem perZone_any_iff {f : Zone → Bool} : PerZone.any f = true ↔ ∃ z, f z = true := by
  rw [← not_iff_not, Bool.not_eq_true, perZone_any_eq_false_iff]
  simp

theorem frozenBy52_iff : s.seeds.frozenBy52 = true ↔
    s.rs.run = .held ∨ ∃ z, s.used z = true ∧ (s.zoneM z).state = .lostHold := by
  unfold State.frozenBy52 State.anyLostHold
  rw [Bool.or_eq_true, decide_eq_true_iff, perZone_any_iff]
  simp only [Bool.and_eq_true, decide_eq_true_iff]
  rfl

theorem zoneLags_iff {band : Nat} : s.seeds.zoneLags band z = true ↔ s.used z = true ∧
    ((s.zoneM z).state = .normal ∨ (s.zoneM z).state = .degraded) ∧ ∃ spi target m,
      s.seededSpi z = some spi ∧ (s.zoneC z).target = some target ∧ (s.zoneM z).measured = some m ∧
      spi / 120 ≠ target ∧ (band : Int) < (m - (spi / 120 : Nat)).natAbs := by
  unfold State.zoneLags ZoneControl.setpoint
  rw [seeds_zoneC, Bool.and_eq_true, Bool.and_eq_true, and_assoc]
  refine and_congr Iff.rfl (and_congr controlled_iff ?_)
  change (match Option.map (· / 120) (s.seededSpi z), (s.zoneC z).target, (s.zoneM z).measured with
    | some sp, some target, some m => decide (sp ≠ target ∧ (band : Int) < (m - sp).natAbs)
    | _, _, _ => false) = true ↔ _
  cases s.seededSpi z <;> cases (s.zoneC z).target <;> cases (s.zoneM z).measured <;> simp

theorem rampLags_iff : s.seeds.rampLags = true ↔ (s.rs.run = .running ∨ s.rs.run = .starved) ∧ ∃ band z spi target m,
    s.zc.band = some band ∧ 0 < band ∧ s.used z = true ∧
    ((s.zoneM z).state = .normal ∨ (s.zoneM z).state = .degraded) ∧
    s.seededSpi z = some spi ∧ (s.zoneC z).target = some target ∧ (s.zoneM z).measured = some m ∧
    spi / 120 ≠ target ∧ (band : Int) < (m - (spi / 120 : Nat)).natAbs := by
  unfold State.rampLags
  rw [Bool.and_eq_true, decide_eq_true_iff]
  refine and_congr Iff.rfl ?_
  change (match s.zc.band with
    | some b => decide (0 < b) && PerZone.any (s.seeds.zoneLags b)
    | none => false) = true ↔ _
  cases s.zc.band with
  | none => simp
  | some band =>
    dsimp only
    rw [Bool.and_eq_true, decide_eq_true_iff, perZone_any_iff]
    simp only [zoneLags_iff]
    constructor
    · rintro ⟨hpos, z, hused, hstate, spi, target, m, hrest⟩
      exact ⟨band, z, spi, target, m, rfl, hpos, hused, hstate, hrest⟩
    · rintro ⟨band', z, spi, target, m, hband, hpos, hused, hstate, hrest⟩
      cases hband
      exact ⟨hpos, z, hused, hstate, spi, target, m, hrest⟩

/-! ### The period before its reactions -/

/-- ZC and BU's heater demand after the stages of a period, with no reaction yet. -/
def State.zcWorked (s : State) : State :=
  settleStage (handDemand (rampAndDrive { s with zc.phase := .running 500 }))

theorem settleStage_withoutReactions {u v : State} (h : u.withoutReactions = v.withoutReactions) :
    (settleStage u).withoutReactions = (settleStage v).withoutReactions := by
  calc (settleStage u).withoutReactions = (settleStage u.withoutReactions).withoutReactions := rfl
    _ = (settleStage v.withoutReactions).withoutReactions := by rw [h]
    _ = (settleStage v).withoutReactions := rfl

/-- What the reactions do not touch is the same in states that differ by reactions alone. -/
theorem eq_of_withoutReactions {α : Type} {f : State → α} (hf : ∀ v, f v.withoutReactions = f v) {u v : State}
    (h : u.withoutReactions = v.withoutReactions) : f u = f v := by
  rw [← hf u, h, hf]

theorem zcStages_withoutReactions (s : State) : (zcStages s).withoutReactions = s.zcWorked.withoutReactions :=
  settleStage_withoutReactions (demandStage_withoutReactions _)

theorem zcWorked_zoneC (s : State) (z : Zone) : s.zcWorked.zoneC z = driveZone s z { s.zoneC z with spi := s.rampedSpi z } := by
  have h : s.zcWorked.zoneC z = (rampAndDrive { s with zc.phase := .running 500 }).zoneC z := rfl
  rw [h, rampAndDrive_eq]
  exact perZone_get_build _ z

theorem zcStages_zoneC (s : State) (z : Zone) : (zcStages s).zoneC z = driveZone s z { s.zoneC z with spi := s.rampedSpi z } :=
  (congrArg (fun v : State => v.zoneC z) (zcStages_withoutReactions s)).trans (zcWorked_zoneC s z)

theorem driveZone_spi (s : State) (z : Zone) (c : ZoneControl) : (driveZone s z c).spi = c.spi := (driveZone_setpoints s z c).2

theorem zcStages_spi (s : State) (z : Zone) : ((zcStages s).zoneC z).spi = s.rampedSpi z := by
  rw [zcStages_zoneC, driveZone_spi]

theorem zcStages_flags (s : State) : (zcStages s).zc.rampWait = s.seeds.rampLags ∧ (zcStages s).zc.frozen = s.seeds.frozenBy52 := by
  have h : s.zcWorked.zc.rampWait = s.seeds.rampLags ∧ s.zcWorked.zc.frozen = s.seeds.frozenBy52 := by
    unfold State.zcWorked
    rw [rampAndDrive_eq]
    exact ⟨rfl, rfl⟩
  exact ⟨(congrArg (fun v : State => v.zc.rampWait) (zcStages_withoutReactions s)).trans h.1,
    (congrArg (fun v : State => v.zc.frozen) (zcStages_withoutReactions s)).trans h.2⟩

end

/-- Settles O45: the two flags by their tests, each setpoint by its ramp. -/
theorem setpointsAdvance : Obligations.SetpointsAdvance := by
  intro s hr ho u seeded frozen lags
  have hlags : u.zc.rampWait = true ↔ lags := by rw [(zcStages_flags s).1]; exact rampLags_iff
  have hfrozen : u.zc.frozen = true ↔ frozen := by rw [(zcStages_flags s).2]; exact frozenBy52_iff
  have hspi (z : Zone) : (u.zoneC z).spi = if u.zc.frozen || u.zc.rampWait then s.seededSpi z
      else (advanceZone s z { s.zoneC z with spi := s.seededSpi z }).spi := by
    rw [(zcStages_flags s).1, (zcStages_flags s).2]
    exact zcStages_spi s z
  refine ⟨congrArg Host.Outcome.next ((beforeOrder_of_none _ ho).trans (if_pos hr)), hlags, hfrozen, fun z => ⟨fun h => ?_,
    fun hf hl spi target rate hseed htarget hrate hused => ?_⟩⟩
  · rw [hspi, if_pos (by rwa [Bool.or_eq_true, hfrozen, hlags])]
    rfl
  · have hadvance : (u.zoneC z).spi = some (advanceSetpoint rate (target * 120) spi) := by
      rw [hspi, if_neg (by rw [Bool.or_eq_true, hfrozen, hlags]; exact not_or.2 ⟨hf, hl⟩)]
      have hseed' : s.seededSpi z = some spi := hseed
      simp only [advanceZone, hseed', htarget, hrate, if_pos hused]
    rw [hadvance]
    exact ⟨fun h => congrArg some (advanceSetpoint_of_near h), fun h => congrArg some (advanceSetpoint_of_far h)⟩

/-! ### Raw drives (R57 to R60) -/

section
variable {s : State} {z : Zone} {c : ZoneControl}

theorem driveZone_of_undriven (h : s.used z = false ∨ c.spi = none) : driveZone s z c = { c with draw := 0 } := by
  unfold driveZone ZoneControl.setpoint
  rcases h with h | h
  · exact if_pos (by rw [h]; rfl)
  · rw [h]
    exact ite_self _

theorem driveZone_of_controlled {spi : Nat} {m : Int} (hused : s.used z = true) (hspi : c.spi = some spi)
    (hstate : (s.zoneM z).state = .normal ∨ (s.zoneM z).state = .degraded) (hm : (s.zoneM z).measured = some m) :
    driveZone s z c = controlZone s.image z s.zc.capSeen (zoneError (spi / 120) m) c := by
  unfold driveZone ZoneControl.setpoint
  rw [hused, hspi, hm]
  rcases hstate with h | h <;> rw [h] <;> rfl

theorem driveZone_of_lostHold (hused : s.used z = true) (hspi : c.spi.isSome) (hstate : (s.zoneM z).state = .lostHold) :
    driveZone s z c = c := by
  obtain ⟨spi, hspi⟩ := Option.isSome_iff_exists.1 hspi
  unfold driveZone ZoneControl.setpoint
  rw [hused, hspi, hstate]
  rfl

theorem driveZone_of_out (hused : s.used z = true) (hspi : c.spi.isSome)
    (hstate : (s.zoneM z).state = .lost ∨ (s.zoneM z).state = .overtemp) : driveZone s z c = { c with draw := 0 } := by
  obtain ⟨spi, hspi⟩ := Option.isSome_iff_exists.1 hspi
  unfold driveZone ZoneControl.setpoint
  rw [hused, hspi]
  rcases hstate with h | h <;> rw [h] <;> rfl

/-- A drive sets the accumulator and the raw drive alone. -/
theorem driveZone_eq (s : State) (z : Zone) (c : ZoneControl) :
    driveZone s z c = { c with ia := (driveZone s z c).ia, draw := (driveZone s z c).draw } := by
  unfold driveZone
  split
  · rfl
  · split <;> rfl

theorem perZone_build_get {α : Type} (p : PerZone α) : (PerZone.build fun z => p.get z) = p := rfl

theorem withheld_iff {e : Int} {capSeen : Bool} {draw : Nat} : withheld e capSeen draw = true ↔
    0 < e ∧ capSeen = true ∨ 0 < e ∧ draw = 1000 ∨ e < 0 ∧ draw = 0 := by
  simp [withheld, or_assoc]

theorem zoneError_eq (sp : Nat) (m : Int) : zoneError sp m = max (-2000) (min 2000 (sp - m)) := by
  rw [zoneError, clampInt_eq (by decide)]; omega

theorem accumulate_eq (ki : Nat) (e : Int) (ia : Nat) : (accumulate ki e ia : Int) = max 0 (min 256000 (ia + ki * e)) := by
  rw [accumulate, clampInt_eq (by decide)]
  generalize (ki : Int) * e = x
  omega

theorem rawDrive_eq (p : Int) (ia : Nat) : (rawDrive p ia : Int) = max 0 (min 1000 (p + (ia / 256 : Nat))) := by
  rw [rawDrive, clampInt_eq (by decide)]; omega

theorem controlZone_ia_of_withheld {img : Image} {capSeen : Bool} {e : Int}
    (h : 0 < e ∧ capSeen = true ∨ 0 < e ∧ c.draw = 1000 ∨ e < 0 ∧ c.draw = 0) : (controlZone img z capSeen e c).ia = c.ia :=
  if_pos (withheld_iff.2 h)

theorem controlZone_ia {img : Image} {capSeen : Bool} {e : Int}
    (h : ¬ (0 < e ∧ capSeen = true ∨ 0 < e ∧ c.draw = 1000 ∨ e < 0 ∧ c.draw = 0)) :
    ((controlZone img z capSeen e c).ia : Int) = max 0 (min 256000 (c.ia + img.ki.get z * e)) :=
  (congrArg Int.ofNat (if_neg (mt withheld_iff.1 h))).trans (accumulate_eq _ _ _)

theorem controlZone_draw {img : Image} {capSeen : Bool} {e : Int} : ((controlZone img z capSeen e c).draw : Int) =
    max 0 (min 1000 ((img.kp.get z * e).tdiv 16 + ((controlZone img z capSeen e c).ia / 256 : Nat))) := rawDrive_eq _ _

end

/-! ### Demand, floor and settling (R54, R55, R61) -/

section
variable {s : State} {z : Zone}

theorem countsInFloor_iff : s.countsInFloor z = true ↔
    s.used z = true ∧ (s.zoneC z).spi.isSome ∧ (s.zoneM z).state ∈ [ZoneState.normal, .degraded, .lostHold] := by
  unfold State.countsInFloor
  rw [Bool.and_eq_true, Bool.and_eq_true, and_assoc]
  cases (s.zoneM z).state <;> simp

theorem settleBand_eq (s : State) : s.settleBand = if s.zc.band.getD 0 = 0 then 20 else s.zc.band.getD 0 := by
  unfold State.settleBand
  rcases s.zc.band with _ | _ | b <;> rfl

/-- What BU is handed, from the zones as the drives leave them (R61). -/
theorem zcWorked_demand (s : State) : s.zcWorked.zc.demand =
      PerZone.sum (fun z => if s.used z then (s.zcWorked.zoneC z).draw * s.image.rating.get z else 0) ∧
    s.zcWorked.zc.want = (s.zcWorked.zc.demand + 999) / 1000 ∧
    s.zcWorked.zc.floor = min s.zcWorked.zc.want (((PerZone.sum fun z =>
      if s.used z = true ∧ (s.zcWorked.zoneC z).spi.isSome ∧ (s.zoneM z).state ∈ [.normal, .degraded, .lostHold] then
        (s.zcWorked.zoneC z).ia / 256 * s.image.rating.get z else 0) + 999) / 1000) ∧
    s.zcWorked.bu.heater = ⟨s.zcWorked.zc.floor, s.zcWorked.zc.want⟩ := by
  have hfloor : (fun z => if s.zcWorked.countsInFloor z = true then
        (s.zcWorked.zoneC z).integral * s.zcWorked.image.rating.get z else 0) = fun z =>
      if s.used z = true ∧ (s.zcWorked.zoneC z).spi.isSome ∧ (s.zoneM z).state ∈ [.normal, .degraded, .lostHold] then
        (s.zcWorked.zoneC z).ia / 256 * s.image.rating.get z else 0 := by
    have hkept : s.zcWorked.used = s.used ∧ s.zcWorked.zoneM = s.zoneM ∧ s.zcWorked.image = s.image := by
      unfold State.zcWorked
      rw [rampAndDrive_eq]
      exact ⟨rfl, rfl, rfl⟩
    funext z
    rw [if_congr countsInFloor_iff rfl rfl, hkept.1, hkept.2.1, hkept.2.2]
    rfl
  rw [← hfloor]
  unfold State.zcWorked
  rw [rampAndDrive_eq]
  exact ⟨rfl, rfl, rfl, rfl⟩

theorem zoneSettled_eq (s : State) (z : Zone) : s.zoneSettled z = (!s.used z || ((s.zoneM z).state.controlled &&
    match (s.zoneC z).spi, (s.zoneC z).target, (s.zoneM z).measured with
    | some spi, some target, some m => decide (spi / 120 = target ∧ (m - (spi / 120 : Nat)).natAbs ≤
        (if s.zc.band.getD 0 = 0 then 20 else s.zc.band.getD 0))
    | _, _, _ => false)) := by
  unfold State.zoneSettled ZoneControl.setpoint
  rw [settleBand_eq]
  cases (s.zoneC z).spi <;> cases (s.zoneC z).target <;> cases (s.zoneM z).measured <;> rfl

/-- What the later stages read of ZC and ZM beside the zones' setpoints is as at the start of the period. -/
theorem zcWorked_kept (s : State) : s.zcWorked.used = s.used ∧ s.zcWorked.zoneM = s.zoneM ∧ s.zcWorked.image = s.image ∧
    s.zcWorked.zc.band = s.zc.band ∧ ∀ z, (s.zcWorked.zoneC z).target = (s.zoneC z).target := by
  refine ⟨?_, ?_, ?_, ?_, fun z => by rw [zcWorked_zoneC, (driveZone_setpoints s z _).1]⟩ <;>
    · unfold State.zcWorked
      rw [rampAndDrive_eq]
      rfl

theorem zcWorked_settle (s : State) : s.zcWorked.zc.settle = (
    if PerZone.all (fun z => !s.used z || ((s.zoneM z).state.controlled &&
      match (s.zcWorked.zoneC z).spi, (s.zoneC z).target, (s.zoneM z).measured with
      | some spi, some target, some m => decide (spi / 120 = target ∧ (m - (spi / 120 : Nat)).natAbs ≤
          (if s.zc.band.getD 0 = 0 then 20 else s.zc.band.getD 0))
      | _, _, _ => false)) then
      some (match s.zc.settle with
        | none => 0
        | some e => min (e + 500) (s.image.settleTime * 1000))
    else none) := by
  obtain ⟨hused, hzoneM, himage, hband, htarget⟩ := zcWorked_kept s
  have hold : (handDemand (rampAndDrive { s with zc.phase := .running 500 })).zc.settle = s.zc.settle := by
    rw [rampAndDrive_eq]
    rfl
  have htimer : s.zcWorked.zc.settle =
      settleTimer (PerZone.all s.zcWorked.zoneSettled) (s.zcWorked.image.settleTime * 1000) s.zc.settle := by
    rw [← hold]
    rfl
  have hzones : s.zcWorked.zoneSettled = fun z => !s.used z || ((s.zoneM z).state.controlled &&
      match (s.zcWorked.zoneC z).spi, (s.zoneC z).target, (s.zoneM z).measured with
      | some spi, some target, some m => decide (spi / 120 = target ∧ (m - (spi / 120 : Nat)).natAbs ≤
          (if s.zc.band.getD 0 = 0 then 20 else s.zc.band.getD 0))
      | _, _, _ => false) := by
    funext z
    rw [zoneSettled_eq, hused, hzoneM, hband, htarget]
  rw [htimer, hzones, himage]
  unfold settleTimer
  cases s.zc.settle <;> rfl

end

/-- Settles O46: the drives by the zone's state, the rest by the stages that follow them. -/
theorem driveAndDemand : Obligations.DriveAndDemand := by
  intro s hr u
  have hu : u.withoutReactions = s.zcWorked.withoutReactions := zcStages_withoutReactions s
  have hzone (z : Zone) : u.zoneC z = driveZone s z { s.zoneC z with spi := (u.zoneC z).spi } := by
    rw [zcStages_spi s z]
    exact zcStages_zoneC s z
  have hworked (z : Zone) : u.zoneC z = s.zcWorked.zoneC z :=
    eq_of_withoutReactions (f := fun v => v.zoneC z) (fun _ => rfl) hu
  have hdemand : u.zc.demand = s.zcWorked.zc.demand :=
    eq_of_withoutReactions (f := fun v => v.zc.demand) (fun _ => rfl) hu
  have hwant : u.zc.want = s.zcWorked.zc.want :=
    eq_of_withoutReactions (f := fun v => v.zc.want) (fun _ => rfl) hu
  have hfloor : u.zc.floor = s.zcWorked.zc.floor :=
    eq_of_withoutReactions (f := fun v => v.zc.floor) (fun _ => rfl) hu
  have hheater : u.bu.heater = s.zcWorked.bu.heater :=
    eq_of_withoutReactions (f := fun v => v.bu.heater) (fun _ => rfl) hu
  have hsettle : u.zc.settle = s.zcWorked.zc.settle :=
    eq_of_withoutReactions (f := fun v => v.zc.settle) (fun _ => rfl) hu
  have hramp : u.zc.rampWait = s.zcWorked.zc.rampWait :=
    eq_of_withoutReactions (f := fun v => v.zc.rampWait) (fun _ => rfl) hu
  have hfrozen : u.zc.frozen = s.zcWorked.zc.frozen :=
    eq_of_withoutReactions (f := fun v => v.zc.frozen) (fun _ => rfl) hu
  have hcap : u.zc.capSeen = true ↔ u.bu.heldHeater * 1000 < u.zc.demand := decide_eq_true_iff
  obtain ⟨hd, hw, hf, hh⟩ := zcWorked_demand s
  clear_value u
  refine ⟨fun z => ⟨fun h => ?_, fun spi hused hspi => ⟨fun m hstate hm => ?_, fun hstate => ?_, fun hstate => ?_⟩⟩, ?_, ?_, ?_, ?_,
    hcap, ?_, ?_⟩
  · rw [hzone, driveZone_of_undriven (c := { s.zoneC z with spi := (u.zoneC z).spi }) h]
    exact ⟨rfl, rfl⟩
  · intro e kept
    have he : zoneError (spi / 120) m = e := zoneError_eq _ _
    have hdrive : u.zoneC z = controlZone s.image z s.zc.capSeen e { s.zoneC z with spi := (u.zoneC z).spi } := by
      rw [← he]
      exact (hzone z).trans (driveZone_of_controlled hused (by exact hspi) hstate hm)
    rw [hdrive]
    exact ⟨controlZone_ia_of_withheld, controlZone_ia, controlZone_draw⟩
  · rw [hzone, driveZone_of_lostHold hused (by rw [hspi]; rfl) hstate]
    exact ⟨rfl, rfl⟩
  · rw [hzone, driveZone_of_out hused (by rw [hspi]; rfl) hstate]
    exact ⟨rfl, rfl⟩
  · simp only [hworked, hdemand]
    exact hd
  · rw [hwant, hdemand]
    exact hw
  · simp only [hworked, hwant, hfloor]
    exact hf
  · rw [hheater, hfloor, hwant]
    exact hh
  · simp only [hworked, hsettle]
    exact zcWorked_settle s
  · have hzones : (PerZone.build fun z => { s.zoneC z with
        spi := (u.zoneC z).spi, ia := (u.zoneC z).ia, draw := (u.zoneC z).draw }) = s.zcWorked.zc.zones := by
      refine (congrArg PerZone.build (funext fun z => ?_)).trans (perZone_build_get _)
      rw [show s.zcWorked.zc.zones.get z = u.zoneC z from (hworked z).symm, hzone z, driveZone_eq]
    rw [hu, hdemand, hwant, hfloor, hsettle, hheater, hzones, hramp, hfrozen]
    unfold State.zcWorked
    rw [rampAndDrive_eq]
    rfl

end Sys2Proof.Machine
end

section
/-!
PROOF. The serial memory and the validation of the image (R183, R184, R186), and the release as one action (R190).
-/
namespace Sys2Proof.Machine

/-! ### Validation (R184) -/

section
variable {s : State} {k : ImageCheck}

theorem imageFault_of_signature {b : List Byte} (h : byteAt b 0 ≠ 0xC3) : imageFault b = some .signature := if_pos h

theorem imageFault_of_sum {b : List Byte} (h : byteAt b 0 = 0xC3) (hsum : byteSum b ≠ 0) : imageFault b = some .sum :=
  (if_neg (not_not.2 h)).trans (if_pos hsum)

theorem imageFault_of_good {b : List Byte} (h : byteAt b 0 = 0xC3) (hsum : byteSum b = 0) : imageFault b = none :=
  (if_neg (not_not.2 h)).trans (if_neg (not_not.2 hsum))

theorem validateStaging_of_good (h : imageFault s.cl.staging = none) : validateStaging s = release s := by
  unfold validateStaging
  rw [h]

/-- An image that fails a check is CONFIG-DEFAULT, of note class, outside any run (R157, R158, R184). -/
theorem validateStaging_of_fault (hrun : s.rs.run = .idle) (h : imageFault s.cl.staging = some k) : validateStaging s = { s with
    cl := { s.cl with startup := .notConfigured }
    fl := placeFault ⟨.configDefault, .note, .none, none, none, .check k⟩ s.fl
    lp := { s.lp with events := addEvent .fault s.lp.events } } := by
  unfold validateStaging
  rw [h]
  dsimp only
  rw [reportFault_of_note _ _ _ _ rfl, takeFault, formRecord, if_pos (by exact hrun), if_pos (by exact hrun)]
  rfl

/-- Whatever the validation finds, CL has left LOADING (R184). -/
theorem validateStaging_startup (s : State) : (validateStaging s).cl.startup ≠ .loading := by
  unfold validateStaging
  split
  · rw [release_cl]; nofun
  · rw [reportFault_cl]; nofun

theorem rs_of_unreleased (hsc : s.StartCoherent) (h : s.released = false) : s.rs.run = .idle := by
  obtain ⟨-, hrs, -⟩ := hsc.quiet h
  rw [hrs]; rfl

end

/-! ### The memory's lines (R183, log 43) -/

section
variable {s : State}

theorem readingMemory_iff : s.readingMemory = true ↔ s.cl.startup = .loading ∧ s.resetHeld = none ∧ s.cl.cfgsrc = .memory :=
  decide_eq_true_iff

theorem exec_serialMemoryReadEnd {bytes : List Byte} (h : s.readingMemory = true) (hlen : bytes.length = 64) :
    exec (.serialMemoryReadEnd bytes) s = .next (validateStaging { s with cl := { s.cl with staging := bytes } }) := by
  refine congrArg Host.Outcome.next ((if_pos h).trans ?_)
  rw [List.take_left' hlen]

/-- The read is over at its end, whether it was under way or not. -/
theorem serialMemoryReadEnd_readingMemory {t : State} {bytes : List Byte} (h : exec (.serialMemoryReadEnd bytes) s = .next t) :
    t.readingMemory = false := by
  rw [show exec (.serialMemoryReadEnd bytes) s = execSerialMemoryReadEnd bytes s from rfl, execSerialMemoryReadEnd,
    Host.Outcome.next.injEq] at h
  rw [Bool.eq_false_iff, ← h]
  split
  · exact fun h' => validateStaging_startup _ (readingMemory_iff.1 h').1
  · next hnot => exact hnot

theorem smck_of_not_reading (h : s.readingMemory = false) (half : Nat) : s.smck half = none :=
  if_neg (by simp [State.smckDriven, h])

theorem smck_of_reading (h : s.readingMemory = true) {half : Nat} (hhalf : half < 1056) :
    s.smck half = some (decide (half % 2 = 1)) := by
  have hclocks : 2 * memoryClocks = 1056 := rfl
  exact if_pos (by simp [State.smckDriven, h, hclocks, hhalf])

theorem smck_after {half : Nat} (hhalf : 1056 ≤ half) : s.smck half = none := by
  have hclocks : 2 * memoryClocks = 1056 := rfl
  exact if_neg (by simp [hclocks, hhalf])

end

/-- Bits most significant first, as a list of the places they are taken from. -/
theorem bitsHigh_eq : bitsHigh = fun b => [7, 6, 5, 4, 3, 2, 1, 0].map b.getLsbD := rfl

theorem bitsHigh_getD {b : Byte} {j : Nat} (hj : j < 8) : (bitsHigh b).getD j false = b.getLsbD (7 - j) := by
  rw [bitsHigh_eq]
  interval_cases j <;> rfl

/-- Bits taken eight to a byte give back the bytes that spelled them (R129, R183). -/
theorem bytesHigh_flatMap (bs : List Byte) : bytesHigh (bs.flatMap bitsHigh) = bs := by
  have h := bytesHigh_flatMap_append bs []
  rwa [List.append_nil, bytesHigh_of_short [] (by decide), List.append_nil] at h

/-- What stands on SMDI at the rising edges after the command is read as the bytes it spells (R183). -/
theorem memoryRead_eq {bytes : List Byte} {smdi : Nat → Bool} (hlen : bytes.length = 64)
    (h : ∀ i j, i < 64 → j < 8 → smdi (2 * (16 + 8 * i + j) + 1) = (byteAt bytes i).getLsbD (7 - j)) : memoryRead smdi = bytes := by
  have hcommand : memoryOut.length = 16 := rfl
  have hbits : (List.range (8 * 64)).map (fun i => smdi (risingHalf (memoryOut.length + i))) = bytes.flatMap bitsHigh := by
    refine List.ext_getElem (by simp [hlen]) fun n hn hn' => ?_
    have hn512 : n < 512 := by simpa using hn
    have hi : n / 8 < 64 := by omega
    have hdiv : 8 * (n / 8) + n % 8 = n := by omega
    have hget := getD_flatMap_of_length bitsHigh_length false bytes (n / 8) (n % 8) (by omega)
    rw [hdiv, List.getD_eq_getElem _ _ hn', List.getElem?_eq_getElem (by omega)] at hget
    have hsmdi := h (n / 8) (n % 8) hi (by omega)
    have hplace : 16 + 8 * (n / 8) + n % 8 = 16 + n := by omega
    have hbyte : byteAt bytes (n / 8) = bytes[n / 8]'(by omega) := List.getD_eq_getElem _ _ _
    rw [hplace, hbyte] at hsmdi
    rw [List.getElem_map, List.getElem_range, hcommand, risingHalf, hsmdi, hget]
    exact (bitsHigh_getD (by omega)).symm
  rw [memoryRead, hbits]
  exact bytesHigh_flatMap bytes

/-- Settles O27: both validations through `validateStaging`, the lines by what they are defined to carry. -/
theorem stagingValidated : Obligations.StagingValidated := by
  refine ⟨fun s bytes hsc hload hheld hsrc hlen => ?_, fun s hsc hp => ⟨fun hwait hnot => ?_, fun hopen => ?_⟩,
    fun b => ⟨imageFault_of_signature, imageFault_of_sum, imageFault_of_good⟩, fun s => readingMemory_iff,
    fun s t bytes => serialMemoryReadEnd_readingMemory, rfl, rfl, fun s => ?_,
    fun s t bytes h half => smck_of_not_reading (serialMemoryReadEnd_readingMemory h) half, fun bytes smdi => memoryRead_eq,
    bytesHigh_flatMap⟩
  · have hexec := exec_serialMemoryReadEnd (readingMemory_iff.2 ⟨hload, hheld, hsrc⟩) hlen
    have hrel : s.released = false := by simp [State.released, hload]
    refine ⟨fun ⟨hsig, hsum⟩ => ?_, fun k hk => ?_⟩
    · rw [hexec, validateStaging_of_good (by exact imageFault_of_good hsig hsum)]
    · rw [hexec, validateStaging_of_fault (by exact rs_of_unreleased (s := s) hsc hrel) (by exact hk)]
  · have hclosed : ¬ s.heard.configurable = true := fun h => ((configurable_iff s.heard).1 h).elim hwait hnot
    have howner : serveOwner .configDone [] s.heard = answer .state s.heard := if_pos (by simpa using hclosed)
    have hexec := exec_command_early .configDone [] s hp (by simp) (by simp) rfl (.inr rfl)
    rw [howner] at hexec
    exact hexec
  · have hconf : s.heard.configurable = true := (configurable_iff s.heard).2 hopen
    have hrel : s.released = false := (unreleased_of_configurable (s := s) hconf).1
    have hexec := exec_command_early .configDone [] s hp (by simp) (by simp) rfl (.inr rfl)
    refine ⟨fun hgood => ?_, fun k hk => ?_⟩
    · have howner : serveOwner .configDone [] s.heard =
          accepted (imageClamped s.cl.staging s.cl.addr s.fuses) (release s.heard) := by
        change serveConfigDone s.heard = _
        unfold serveConfigDone
        rw [hconf, show s.heard.cl.staging = s.cl.staging from rfl, hgood, validateStaging_of_good (by exact hgood), release_cl]
        rfl
      rw [howner] at hexec
      exact hexec
    · have howner : serveOwner .configDone [] s.heard = answer .badFormat (validateStaging s.heard) := by
        change serveConfigDone s.heard = _
        unfold serveConfigDone
        rw [hconf, show s.heard.cl.staging = s.cl.staging from rfl, hk]
        rfl
      rw [howner, validateStaging_of_fault (s := s.heard) (rs_of_unreleased (s := s) hsc hrel) hk] at hexec
      exact hexec
  · refine ⟨readingMemory_iff, fun h half => ?_, fun h => ⟨fun n hn => ⟨?_, ?_⟩, fun half => smck_after, fun n hn => ?_⟩⟩
    · have hnot : s.readingMemory = false := by rwa [Bool.eq_false_iff, Ne, readingMemory_iff]
      exact ⟨smck_of_not_reading hnot half, if_neg (by simp [hnot])⟩
    · rw [smck_of_reading (readingMemory_iff.2 h) (by omega), Nat.mul_mod_right]
      rfl
    · rw [smck_of_reading (readingMemory_iff.2 h) (by omega), Nat.mul_add_mod]
      rfl
    · have hsmdo (half : Nat) : s.smdo half = memoryOut[half / 2]? := if_pos (readingMemory_iff.2 h)
      rw [hsmdo, hsmdo, show 2 * n / 2 = n by omega, show (2 * n + 1) / 2 = n by omega]
      exact ⟨rfl, rfl⟩

/-! ### The release (R190) -/

/-- The release before its reactions, the curtail inputs apart. -/
def State.releasing (s : State) : State :=
  releaseBL (releaseBD (releaseGC (releaseZC (releaseZM (raiseEvent .ready { s with
    cl.image := some (applyImage s.cl.staging s.cl.addr s.fuses)
    cl.clamped := imageClamped s.cl.staging s.cl.addr s.fuses
    cl.startup := .joining })))))

section
variable {s : State}

theorem release_eq (s : State) : release s = commit s (releaseBU s.releasing) := rfl

theorem releaseBU_eq (u : State) : releaseBU u = { u with bu := { u.bu with
    debounce := if u.image.curtailSource ∧ u.inputLevel ≠ u.bu.debounced then .running 100 else u.bu.debounce } } := by
  unfold releaseBU
  split <;> rfl

/-- GC hands BU the bleed floor as floor and as want (R69, R74). -/
theorem releasing_purge (s : State) : s.releasing.bu.purge =
    ⟨(applyImage s.cl.staging s.cl.addr s.fuses).bleedFloor, (applyImage s.cl.staging s.cl.addr s.fuses).bleedFloor⟩ := by
  have h : s.releasing.bu.purge = ⟨min (applyImage s.cl.staging s.cl.addr s.fuses).bleedFloor
      (applyImage s.cl.staging s.cl.addr s.fuses).bleedFloor, (applyImage s.cl.staging s.cl.addr s.fuses).bleedFloor⟩ := rfl
  rw [h, min_self]

/-- With every line queued already, the changes of the applied flows queue none again (R75). -/
theorem flowReact_queue_of_all (s0 : State) {u : State} (h : u.gc.queue = GasLine.all) : (flowReact s0 u).gc.queue = GasLine.all := by
  simp [flowReact, GasLine.all, joinQueue, h]

theorem release_queue (s : State) : (release s).gc.queue = GasLine.all := by
  rw [release_eq, commit]
  refine flowReact_queue_of_all s ?_
  rw [shareReact_gc, boatReact_gc, releaseBU_eq]
  rfl

theorem release_heldGrant (hbu : s.bu = Budget.reset) (p : Supply) : (release s).heldGrant p = 0 := by
  have hheld : (releaseBU s.releasing).heldGrant p = 0 := by
    have hkept : (releaseBU s.releasing).heldGrant p = s.heldGrant p := by rw [releaseBU_eq]; cases p <;> rfl
    rw [hkept]
    cases p
    · exact congrArg Budget.heldHeater hbu
    · exact congrArg Budget.heldPurge hbu
  rw [release_eq]
  rcases commit_held s (releaseBU s.releasing) with ⟨-, h⟩ | ⟨h, -⟩ <;> rw [h, hheld]
  exact Nat.zero_min _

theorem appliedPower_eq_zero (h : ∀ z, (s.zoneC z).draw = 0) : s.appliedPower = 0 := by
  have hdrive (z : Zone) : s.appliedDrive z = 0 := by simp [State.appliedDrive, h]
  simp [State.appliedPower, hdrive, PerZone.sum]

end

/-- Settles O28: the blocks as the release sets them, then what the empty grants leave of power and purge flow. -/
theorem releaseBegins : Obligations.ReleaseBegins := by
  intro s hsc hrel img t
  obtain ⟨-, -, -, hzc, -, -, hbu, -⟩ := hsc.quiet hrel
  have hheld : t.bu.heldHeater = 0 ∧ t.bu.heldPurge = 0 := ⟨release_heldGrant hbu .heater, release_heldGrant hbu .purge⟩
  have hframe : t.withoutReactions = (releaseBU s.releasing).withoutReactions := commit_withoutReactions _ _
  have hdraw (z : Zone) : (t.zoneC z).draw = 0 := by
    have hkept : (t.zoneC z).draw = (s.zoneC z).draw := by
      rw [eq_of_withoutReactions (f := fun v => (v.zoneC z).draw) (fun _ => rfl) hframe, releaseBU_eq]
      cases z <;> rfl
    rw [hkept, State.zoneC, hzc]
    cases z <;> rfl
  refine ⟨?_, release_queue s, ?_, hheld.1, hheld.2, appliedPower_eq_zero hdraw, ?_⟩
  · have hpurge : s.releasing = { s.releasing with bu := { s.releasing.bu with purge := ⟨img.bleedFloor, img.bleedFloor⟩ } } := by
      rw [← releasing_purge s]
    have hdebounced : s.releasing.bu.debounced = .l100 := congrArg Budget.debounced hbu
    have hdebounce : s.releasing.bu.debounce = .stopped := congrArg Budget.debounce hbu
    rw [hframe, releaseBU_eq, hdebounced, hdebounce, hpurge]
    rfl
  · refine mem_commit_events s ?_
    rw [releaseBU_eq]
    exact mem_raiseEvent.2 (.inl rfl)
  · simp [State.appliedFlow, hheld.2]

end Sys2Proof.Machine
end

section
/-!
PROOF. The local port's line: the receiver, the input slot, replies and LPTX (R169 to R174).
-/
namespace Sys2Proof.Machine

/-! ### Characters (R169) -/

/-- With the even parity bit the number of 1s among the nine bits is even. -/
theorem ones_parity (d : Byte) (p : Bool) :
    (((List.range 8).map d.getLsbD ++ [p]).filter id).length % 2 = if p = parityBit d then 0 else 1 := by
  revert d p; decide +kernel

section
variable {c : LpChar}

theorem result_of_no_stop (h : c.stop = false) : c.result = .framingError := if_neg (by simp [h])

theorem result_of_odd (h : c.stop = true) (hodd : (((List.range 8).map c.data.getLsbD ++ [c.parity]).filter id).length % 2 = 1) :
    c.result = .parityError := by
  rw [ones_parity] at hodd
  exact (if_pos h).trans (if_neg fun hp => by rw [if_pos hp] at hodd; cases hodd)

theorem result_of_even (h : c.stop = true) (heven : (((List.range 8).map c.data.getLsbD ++ [c.parity]).filter id).length % 2 = 0) :
    c.result = .good c.data := by
  rw [ones_parity] at heven
  by_cases hp : c.parity = parityBit c.data
  · exact (if_pos h).trans (if_pos hp)
  · rw [if_neg hp] at heven; cases heven

end

/-! ### The receiver (R170 to R172) -/

section
variable {c : LpChar} {b : Byte}

theorem lpTake_hunting_start (h : c.result = .good 0xA8) : lpTake .hunting c = (.inFrame [], none) := by
  simp [lpTake, h]

theorem lpTake_hunting_other (h : c.result ≠ .good 0xA8) : lpTake .hunting c = (.hunting, none) := by
  unfold lpTake
  cases hc : c.result with
  | good b => exact congrArg (·, none) (if_neg fun hb => h (by rw [hc, hb]))
  | _ => rfl

theorem lpTake_inFrame_error (got : List Byte) (h : ∀ b, c.result ≠ .good b) : lpTake (.inFrame got) c = (.skipping, some .reject) := by
  unfold lpTake
  cases hc : c.result with
  | good b => exact absurd hc (h b)
  | _ => rfl

theorem lpTake_inFrame_good (got : List Byte) (h : c.result = .good b) : lpTake (.inFrame got) c = lpFrameByte got b := by
  simp only [lpTake, h]

theorem byteSum_cons (b : Byte) (bs : List Byte) : byteSum (b :: bs) = b + byteSum bs := by
  have h (x : Byte) : bs.foldl (· + ·) x = x + byteSum bs := by
    unfold byteSum
    induction bs generalizing x with
    | nil => exact (BitVec.add_zero x).symm
    | cons y ys ih => rw [List.foldl_cons, List.foldl_cons, ih, ih (0 + y), zero_add, add_assoc]
  rw [← h b, byteSum, List.foldl_cons, zero_add]

/-- A complete frame by its sum (R172). -/
theorem checkRequest_eq (len kind : Byte) (body : List Byte) (check : Byte) : checkRequest len (kind :: body ++ [check]) =
    if len + kind + byteSum body + check = 0 then .request kind body else .badCheck kind := by
  have hsum : byteSum (len :: (kind :: body ++ [check])) = len + kind + byteSum body + check := by
    rw [byteSum_cons, byteSum_append_singleton, byteSum_cons]
    simp only [BitVec.add_assoc]
  rw [checkRequest, hsum]
  simp [byteAt]

end

section
variable {s : State}

/-- One character, and the entry it forms (R170, R171). -/
theorem receiveChars_one {c : LpChar} {rx : LpReceiver} {e : Option LpEntry} (h : lpTake s.lp.rx c = (rx, e)) :
    receiveChars [c] s = e.toList.foldl formEntry { s with lp := { s.lp with rx := rx, gap := 0 } } := by
  unfold receiveChars
  rw [lpFeed, h]
  simp [lpFeed]

theorem receiveChars_silent {c : LpChar} {rx : LpReceiver} (h : lpTake s.lp.rx c = (rx, none)) :
    receiveChars [c] s = { s with lp := { s.lp with rx := rx, gap := 0 } } := receiveChars_one h

theorem receiveChars_error {c : LpChar} {rx : LpReceiver} (h : lpTake s.lp.rx c = (rx, some .reject)) :
    receiveChars [c] s = offerEntry .reject { s with lp := { s.lp with
      rx := rx, gap := 0, lineErrors := satSucc 65535 s.lp.lineErrors } } := receiveChars_one h

theorem heard_eq {rx : LpReceiver} (h : s.lp.rx = rx) : ({ s with lp := { s.lp with rx := rx, gap := 0 } } : State) = s.heard := by
  rw [← h]; rfl

theorem receiveChars_skipping (h : s.lp.rx = .skipping) (c : LpChar) (cs : List LpChar) : receiveChars (c :: cs) s = s.heard := by
  unfold receiveChars
  rw [h, lpFeed_skipping]
  exact heard_eq h

/-- Characters in two parts: the entries of the first are formed with the receiver aside, so it may take the second before or after
them. -/
theorem receiveChars_append (cs ds : List LpChar) (s : State) : receiveChars (cs ++ ds) s = receiveChars ds (receiveChars cs s) := by
  have hforms (es : List LpEntry) (rx : LpReceiver) (gap : Nat) :
      es.foldl formEntry { s with lp.rx := rx, lp.gap := gap } = setAside ⟨s.rs.abortOrdered, rx, gap⟩ (es.foldl formEntry s) :=
    formEntries_asideFree es ⟨s.rs.abortOrdered, rx, gap⟩ s
  have hgap : (if (cs ++ ds).isEmpty then s.lp.gap else 0) =
      if ds.isEmpty then if cs.isEmpty then s.lp.gap else 0 else 0 := by
    cases cs <;> cases ds <;> rfl
  have hfirst : receiveChars cs s = setAside ⟨s.rs.abortOrdered, (lpFeed s.lp.rx cs).1, if cs.isEmpty then s.lp.gap else 0⟩
      ((lpFeed s.lp.rx cs).2.foldl formEntry s) := hforms _ _ _
  rw [hfirst]
  unfold receiveChars
  rw [lpFeed_append]
  dsimp only
  rw [List.foldl_append, hforms (lpFeed s.lp.rx cs).2, hgap]
  rfl

theorem lpGapTimeout_of_hunting {chars : List LpChar} (hrx : s.lp.rx = .hunting) (hwf : partialFrame chars = true)
    (hne : chars ≠ []) (hheld : s.resetHeld = none) : exec (.lpGapTimeout chars) s = .next (offerEntry .reject { s with
      lp := { s.lp with rx := .hunting, gap := 0, lineErrors := satSucc 65535 s.lp.lineErrors } }) := by
  cases chars with
  | nil => exact absurd rfl hne
  | cons start rest =>
    obtain ⟨hstart, hrest⟩ := Bool.and_eq_true_iff.1 hwf
    obtain ⟨got, hgot⟩ := lpFeed_unfinished rest hrest
    have hfed : receiveChars (start :: rest) s = { s with lp := { s.lp with rx := .inFrame got, gap := 0 } } := by
      unfold receiveChars
      rw [hrx, lpFeed, lpTake_hunting_start (of_decide_eq_true hstart)]
      dsimp only
      rw [hgot]
      rfl
    refine congrArg Host.Outcome.next ((if_neg (by simp [hheld])).trans ?_)
    rw [hfed]
    rfl

theorem lineError_of_hunting {chars : List LpChar} (hrx : s.lp.rx = .hunting) (hwf : endsInLineError chars = true) :
    exec (.lineError chars) s = .next (offerEntry .reject { s with
      lp := { s.lp with rx := .skipping, gap := 0, lineErrors := satSucc 65535 s.lp.lineErrors } }) := by
  cases chars with
  | nil => cases hwf
  | cons start rest =>
    refine congrArg Host.Outcome.next ?_
    unfold receiveChars
    rw [hrx, lpFeed_endsInLineError _ hwf]
    rfl

theorem badCheckFrame_of_hunting {kind check : Byte} {body : List Byte} (hrx : s.lp.rx = .hunting)
    (hwf : (Instr.badCheckFrame kind body check).wf = true) :
    exec (.badCheckFrame kind body check) s = .next (offerEntry (.badCheck kind) s.heard) := by
  obtain ⟨hfits, hsum⟩ := Bool.and_eq_true_iff.1 hwf
  have hbad : BitVec.ofNat 8 (body.length + 2) + kind + byteSum body + check ≠ 0 := of_decide_eq_true hsum
  refine congrArg Host.Outcome.next ?_
  unfold receiveChars
  rw [hrx, lpFeed_frameChars kind body check (of_decide_eq_true hfits), checkRequest_eq, if_neg hbad]
  exact congrArg (offerEntry (.badCheck kind)) (heard_eq hrx)

/-- A byte in a frame that is not complete with it, and one that completes it (R170, R172). -/
theorem receiveChars_inFrame {c : LpChar} {b len : Byte} {rest : List Byte} (hrx : s.lp.rx = .inFrame (len :: rest))
    (hc : c.result = .good b) :
    (rest.length + 1 < len.toNat → receiveChars [c] s = { s with lp := { s.lp with rx := .inFrame (len :: rest ++ [b]), gap := 0 } }) ∧
    (∀ kind body, rest.length + 1 = len.toNat → rest = kind :: body → receiveChars [c] s = offerEntry
      (if len + kind + byteSum body + b = 0 then .request kind body else .badCheck kind)
      { s with lp := { s.lp with rx := .hunting, gap := 0 } }) := by
  have htake : lpTake s.lp.rx c = lpFrameByte (len :: rest) b := by rw [hrx, lpTake_inFrame_good _ hc]
  refine ⟨fun h => receiveChars_silent (htake.trans (if_neg (by omega))), fun kind body h hrest => ?_⟩
  rw [receiveChars_one (htake.trans (if_pos h)), hrest, checkRequest_eq]
  split <;> rfl

/-! ### LPTX (R169, R173) -/

theorem lpChar_bits_length (b : Byte) : (LpChar.good b).bits.length = 11 := rfl

/-- The `j`-th level of the `i`-th byte of the reply in progress. -/
theorem lptxLevel_of_byte {r : Reply} (h : s.lp.reply = some r) {i j : Nat} (hi : i < r.bytes.length) (hj : j < 11) :
    s.lptxLevel (11 * i + j) = (LpChar.good (byteAt r.bytes i)).bits.getD j true := by
  unfold State.lptxLevel
  rw [h]
  dsimp only
  rw [Reply.lptx, getD_flatMap_of_length lpChar_bits_length true _ i j hj, List.getElem?_eq_getElem hi, byteAt,
    List.getD_eq_getElem _ _ hi]
  rfl

theorem lptxLevel_after {r : Reply} (h : s.lp.reply = some r) {n : Nat} (hn : 11 * r.bytes.length ≤ n) : s.lptxLevel n = true := by
  unfold State.lptxLevel
  rw [h]
  exact List.getD_eq_default _ _ (by rw [lptx_length]; exact hn)

theorem lpChar_bits_data (b : Byte) {j : Nat} (hj : j < 8) : (LpChar.good b).bits.getD (j + 1) true = b.getLsbD j := by
  interval_cases j <;> rfl

theorem lpChar_bits_start (b : Byte) : (LpChar.good b).bits.getD 0 true = false := rfl
theorem lpChar_bits_parity (c : LpChar) : c.bits.getD 9 true = c.parity := rfl
theorem lpChar_bits_stop (b : Byte) : (LpChar.good b).bits.getD 10 true = true := rfl

/-- A byte of a reply on LPTX: start bit, data bits, even parity, stop bit. -/
theorem lptxLevel_character {r : Reply} (h : s.lp.reply = some r) {i : Nat} (hi : i < r.bytes.length) :
    s.lptxLevel (11 * i + 0) = false ∧ s.lptxLevel (11 * i + 10) = true ∧
    (∀ j, j < 8 → s.lptxLevel (11 * i + (j + 1)) = (byteAt r.bytes i).getLsbD j) ∧
    (((List.range 9).map fun j => s.lptxLevel (11 * i + (j + 1))).filter id).length % 2 = 0 := by
  have hdata {j : Nat} (hj : j < 8) : s.lptxLevel (11 * i + (j + 1)) = (byteAt r.bytes i).getLsbD j := by
    rw [lptxLevel_of_byte h hi (j := j + 1) (by omega), lpChar_bits_data _ hj]
  have hparity : s.lptxLevel (11 * i + (8 + 1)) = parityBit (byteAt r.bytes i) := by
    exact (lptxLevel_of_byte h hi (j := 9) (by decide)).trans (lpChar_bits_parity _)
  have hones : (List.range 9).map (fun j => s.lptxLevel (11 * i + (j + 1))) =
      (List.range 8).map (byteAt r.bytes i).getLsbD ++ [parityBit (byteAt r.bytes i)] := by
    rw [List.range_succ, List.map_append, List.map_singleton, hparity]
    exact congrArg (· ++ _) (List.map_congr_left fun j hj => hdata (List.mem_range.1 hj))
  refine ⟨?_, ?_, fun j => hdata, ?_⟩
  · rw [lptxLevel_of_byte h hi (j := 0) (by decide), lpChar_bits_start]
  · rw [lptxLevel_of_byte h hi (j := 10) (by decide), lpChar_bits_stop]
  · rw [hones, ones_parity, if_pos rfl]

end

/-- Settles O25: the slot by its table, the receiver character by character, LPTX bit by bit. -/
theorem inputSlotTable : Obligations.InputSlotTable := by
  intro s
  refine ⟨fun e h => offerEntry_of_free e h, fun e hr hs => ?_, fun e hr hs => ?_, fun ho hr => ?_, fun ho hr hs => ?_,
    fun e ho hr hs => ?_, fun kind => rfl, rfl, fun hrx => ⟨fun r body hb hr ho => exec_command_hunting r body s hrx (fun _ => ho) hb,
      fun r body hb h1 h2 => exec_command_hunting r body s hrx (fun h => h.elim (absurd · h1) (absurd · h2)) hb,
      fun kind body check hwf => badCheckFrame_of_hunting hrx hwf, fun chars hwf => lineError_of_hunting hrx hwf,
      fun chars hwf hne hheld => lpGapTimeout_of_hunting hrx hwf hne hheld⟩, fun hrx hheld => ?_, ?_,
    fun c => ⟨result_of_no_stop, result_of_odd, result_of_even⟩, fun h n => ?_, fun r h => ⟨fun n => lptxLevel_after h, fun i hi => ?_⟩⟩
  · obtain ⟨r, hr⟩ := Option.isSome_iff_exists.1 hr
    simp only [offerEntry, hr, hs]
  · obtain ⟨r, hr⟩ := Option.isSome_iff_exists.1 hr
    obtain ⟨x, hs⟩ := Option.isSome_iff_exists.1 hs
    simp only [offerEntry, hr, hs]
    rfl
  · exact congrArg Host.Outcome.next ((beforeOrder_of_none _ ho).trans (if_pos (by simp [hr])))
  · refine congrArg Host.Outcome.next ((beforeOrder_of_none _ ho).trans ((if_neg (by simpa [Option.isSome_iff_ne_none] using hr)).trans ?_))
    rw [hs]
  · refine congrArg Host.Outcome.next ((beforeOrder_of_none _ ho).trans ((if_neg (by simpa [Option.isSome_iff_ne_none] using hr)).trans ?_))
    rw [hs]
  · refine congrArg Host.Outcome.next ((if_neg (by simp [hheld])).trans ?_)
    change passGap s = _
    unfold passGap
    rw [hrx]
  · intro ended
    refine ⟨fun got hrx hheld => ?_, receiveChars_skipping, fun hrx c => ⟨fun h => ?_, fun h => ?_⟩, fun got hrx c => ⟨fun h => ?_,
      fun b hc hgot => ⟨fun h1 h2 => ?_, fun h => ?_⟩, fun b len rest hc hgot => ?_⟩, fun cs ds => receiveChars_append cs ds s,
      fun cs => rfl, fun kind body check => ?_⟩
    · refine congrArg Host.Outcome.next ((if_neg (by simp [hheld])).trans ?_)
      change passGap s = _
      unfold passGap
      rw [hrx]
      rfl
    · exact receiveChars_silent (hrx ▸ lpTake_hunting_start h)
    · exact (receiveChars_silent (hrx ▸ lpTake_hunting_other h)).trans (heard_eq hrx)
    · exact receiveChars_error (hrx ▸ lpTake_inFrame_error got h)
    · exact receiveChars_silent (by rw [hrx, hgot, lpTake_inFrame_good _ hc]; exact if_pos ⟨h1, h2⟩)
    · exact receiveChars_error (by rw [hrx, hgot, lpTake_inFrame_good _ hc]; exact if_neg (by omega))
    · subst hgot
      exact receiveChars_inFrame hrx hc
    · refine congrArg (fun cs => Host.Outcome.next (receiveChars cs s)) ?_
      simp [frameChars]
  · simp [State.lptxLevel, h]
  · exact lptxLevel_character h hi

end Sys2Proof.Machine
end

section
/-!
PROOF. The read requests and their bodies byte for byte (R43, R67, R84, R104, R127, R144, R155, R167, R176, R177, R179, R191, R197).
-/
namespace Sys2Proof.Machine

/-! ### Sets as masks (R197) -/

section
variable {α : Type} [DecidableEq α]

/-- The mask of a set of names: bit n for the nth of the list. -/
def setMask (names es : List α) : Nat := (es.map fun k => 2 ^ indexIn k names).sum

theorem setMask_skip {a : α} {names es : List α} (h : a ∉ es) : setMask (a :: names) es = 2 * setMask names es := by
  unfold setMask
  induction es with
  | nil => rfl
  | cons k ks ih =>
    obtain ⟨hk, hks⟩ := not_or.1 (mt List.mem_cons.2 h)
    have hindex : indexIn k (a :: names) = indexIn k names + 1 := if_neg fun h => hk h.symm
    rw [List.map_cons, List.map_cons, List.sum_cons, List.sum_cons, ih hks, hindex, Nat.pow_succ]
    omega

theorem setMask_take {a : α} {names es : List α} (h : a ∉ es) : setMask (a :: names) (a :: es) = 2 * setMask names es + 1 := by
  have hindex : indexIn a (a :: names) = 0 := if_pos rfl
  rw [← setMask_skip h, setMask, setMask, List.map_cons, List.sum_cons, hindex]
  omega

/-- A sublist of the names has the bits of its members and no other. -/
theorem setMask_of_sublist {names es : List α} (hs : es.Sublist names) (hn : names.Nodup) : setMask names es < 2 ^ names.length ∧
    ∀ n k, names[n]? = some k → ((setMask names es).testBit n = true ↔ k ∈ es) := by
  induction hs with
  | slnil => exact ⟨Nat.one_pos, fun n k h => by cases h⟩
  | @cons es names a hs ih =>
    obtain ⟨ha, hn⟩ := List.nodup_cons.1 hn
    obtain ⟨hlt, hbits⟩ := ih hn
    have hae : a ∉ es := fun h => ha (hs.subset h)
    rw [setMask_skip hae, List.length_cons, Nat.pow_succ]
    refine ⟨by omega, fun n k h => ?_⟩
    cases n with
    | zero =>
      cases h
      simp [hae]
    | succ n =>
      rw [Nat.testBit_succ, Nat.mul_div_cancel_left _ Nat.two_pos]
      exact hbits n k h
  | @cons_cons es names a hs ih =>
    obtain ⟨ha, hn⟩ := List.nodup_cons.1 hn
    obtain ⟨hlt, hbits⟩ := ih hn
    rw [setMask_take fun h => ha (hs.subset h), List.length_cons, Nat.pow_succ]
    refine ⟨by omega, fun n k h => ?_⟩
    cases n with
    | zero =>
      cases h
      simp
    | succ n =>
      have hk : k ≠ a := fun hk => ha (hk ▸ List.mem_of_getElem? h)
      rw [Nat.testBit_succ, show (2 * setMask names es + 1) / 2 = setMask names es by omega, hbits n k h]
      simp [hk]

end

/-! ### Field encodings (R197) -/

theorem bytesOf_two : bytesOf 2 = fun n => [BitVec.ofNat 8 (n / 256), BitVec.ofNat 8 n] := by
  funext n
  simp only [bytesOf, Nat.shiftRight_eq_div_pow]
  norm_num

theorem bytesOf_four : bytesOf 4 = fun n => bytesOf 2 (n / 65536) ++ bytesOf 2 n := by
  funext n
  rw [bytesOf_two]
  simp only [bytesOf, Nat.shiftRight_eq_div_pow]
  norm_num [Nat.div_div_eq_div_mul]

theorem flagByte_eq : flagByte = fun b => bytesOf 1 (if b then 1 else 0) := by
  funext b; cases b <;> rfl

theorem optBytes_eq : optBytes = fun w o => match o with
    | some bytes => (1 : Byte) :: bytes
    | none => List.replicate (w + 1) 0 := by
  funext w o; cases o <;> rfl

theorem leftBytes_eq : leftBytes = fun t => match t with
    | .stopped => ([0xFF, 0xFF] : List Byte)
    | .running n => bytesOf 2 n
    | .expired => [0, 0] := by
  funext t; cases t <;> rfl

theorem recordBytes_eq : recordBytes = fun o => match o with
    | none => List.replicate 17 (0 : Byte)
    | some r => bytesOf 1 (FaultKind.all.idxOf r.kind + 1) ++
        bytesOf 1 (match r.cls with
          | .note => 0
          | .hold => 1
          | .abort => 2) ++
        (match r.subject with
          | .none => [0, 0]
          | .zone z => bytesOf 1 (z.index + 1) ++ [0]
          | .channel z k => bytesOf 1 (z.index + 1) ++ [if k = ChannelKind.profile then 0 else 1]
          | .line l => bytesOf 1 (GasLine.all.idxOf l) ++ [0]
          | .station n => bytesOf 1 n ++ [0]
          | .stations ns => bytesOf 1 (stationMask ns) ++ [0]) ++
        optNat 2 r.label ++ optBytes 4 (r.runTime.map (bytesOf 4)) ++
        optBytes 4 (match r.value with
          | .absent => none
          | .number v => some (bytesOf 4 (BitVec.ofInt 32 v).toNat)
          | .stations ns => some (bytesOf 4 (stationMask ns))
          | .check c => some (bytesOf 4 (if c = ImageCheck.signature then 0 else 1))) := by
  funext o
  cases o with
  | none => rfl
  | some r =>
    obtain ⟨kind, cls, subject, label, runTime, value⟩ := r
    have hkind : kind.code = FaultKind.all.idxOf kind + 1 := by cases kind <;> rfl
    have hcls : cls.code = match cls with
        | .note => 0
        | .hold => 1
        | .abort => 2 := by cases cls <;> rfl
    have hsubject : subjectBytes subject = match subject with
        | .none => [0, 0]
        | .zone z => bytesOf 1 (z.index + 1) ++ [0]
        | .channel z k => bytesOf 1 (z.index + 1) ++ [if k = ChannelKind.profile then 0 else 1]
        | .line l => bytesOf 1 (GasLine.all.idxOf l) ++ [0]
        | .station n => bytesOf 1 n ++ [0]
        | .stations ns => bytesOf 1 (stationMask ns) ++ [0] := by
      cases subject with
      | channel z k => cases k <;> rfl
      | line l => cases l <;> rfl
      | _ => rfl
    have hvalue : valueBytes value = optBytes 4 (match value with
        | .absent => none
        | .number v => some (bytesOf 4 (BitVec.ofInt 32 v).toNat)
        | .stations ns => some (bytesOf 4 (stationMask ns))
        | .check c => some (bytesOf 4 (if c = ImageCheck.signature then 0 else 1))) := by
      cases value with
      | check c => cases c <;> rfl
      | _ => rfl
    simp only [recordBytes, hkind, hcls, hsubject, hvalue]
    rfl

/-! ### The groups of STATUS-READ that say their fields otherwise than the rules (R176) -/

section
variable (s : State)

theorem statusStartup_eq : statusStartup s =
    bytesOf 1 s.cl.startup.code ++ bytesOf 1 (if s.cl.cfgsrc = .memory then 0 else 1) ++ optNat 1 (s.cl.image.map (·.station)) ++
    flagByte (s.cl.image.any (·.fromStraps)) ++ flagByte s.cl.clamped ++ bytesOf 2 s.fuses.ceiling.limit ++ flagByte s.fuses.oxidant ++
    optNat 2 (s.cl.image.map (·.zoneLimit)) ++ optBytes 1 (s.cl.image.map fun i => flagByte i.oxidantDisabled) := by
  unfold statusStartup
  cases s.cl.cfgsrc <;> rfl

theorem statusHeat_eq : statusHeat s =
    optNat 1 s.zc.rate ++ optNat 2 s.zc.band ++ flagByte s.zc.rampWait ++ flagByte s.zc.frozen ++ flagByte s.capActive ++
    bytesOf 4 s.zc.demand ++ bytesOf 2 s.zc.want ++ bytesOf 2 s.zc.floor ++ flagByte s.thermalSettled ++ (match s.zc.settle with
      | some e => bytesOf 4 e
      | none => [0xFF, 0xFF, 0xFF, 0xFF]) := by
  unfold statusHeat
  cases s.zc.settle <;> rfl

theorem statusLine_eq (l : GasLine) : statusLine s l =
    bytesOf 2 (s.line l).commanded ++ bytesOf 2 (s.appliedFlow l) ++ bytesOf 1 (s.line l).status.code ++
    optNat 2 (s.line l).lastGood ++ ageBytes (s.line l).age ++ flagByte (s.line l).deviates ++ (match (s.line l).devTimer with
      | some e => bytesOf 2 e
      | none => [0xFF, 0xFF]) ++ flagByte (s.line l).latch := by
  unfold statusLine
  dsimp only
  cases (s.line l).devTimer <;> rfl

theorem statusGas_eq : statusGas s =
    (GasLine.all.flatMap fun l => bytesOf 2 (s.line l).commanded ++ bytesOf 2 (s.appliedFlow l) ++ bytesOf 1 (s.line l).status.code ++
      optNat 2 (s.line l).lastGood ++ ageBytes (s.line l).age ++ flagByte (s.line l).deviates ++ (match (s.line l).devTimer with
        | some e => bytesOf 2 e
        | none => [0xFF, 0xFF]) ++ flagByte (s.line l).latch) ++
    bytesOf 4 s.gc.acc ++ optNat 1 s.gc.requirement ++
    optBytes 4 (s.gc.requirement.map fun x => bytesOf 4 (x * s.image.tubeVolume * 120)) ++ flagByte s.purgeDone ++
    flagByte s.oxidantPermit ++ flagByte (s.released && s.pins.sealed) ++ flagByte s.boatFullIn ++
    flagByte (s.released && !s.image.oxidantDisabled) ++
    bytesOf 2 (min (s.line .purge).commanded s.image.bleedFloor) ++ bytesOf 2 (s.line .purge).commanded := by
  have htarget : optNat 4 (s.gc.requirement.map s.purgeUnits) =
      optBytes 4 (s.gc.requirement.map fun x => bytesOf 4 (x * s.image.tubeVolume * 120)) := by
    rw [optNat, Option.map_map]
    rfl
  rw [statusGas, funext (statusLine_eq s), htarget]
  rfl

theorem statusBoat_eq : statusBoat s =
    bytesOf 2 s.bd.e ++ bytesOf 2 s.bd.c ++ bytesOf 1 s.motion.code ++
    optBytes 6 (s.bd.move.map fun m => bytesOf 2 m.target ++ bytesOf 2 m.speed ++ bytesOf 2 m.droop) ++
    bytesOf 1 s.bd.factor.quarters ++ optNat 2 s.appliedSpeed ++ optBytes 2 (s.bd.droop.map (bytesOfInt 2)) ++
    bytesOf 1 s.bd.gate.code ++ leftBytes s.bd.reclear ++ flagByte s.bd.referenced ++
    (s.bd.marks.flatMap fun m => bytesOf 2 m.position ++ bytesOf 1 m.direction.code) ++
    optBytes 6 (s.bd.lastMark.map fun m => bytesOf 2 m.position ++ bytesOf 1 m.direction.code ++ bytesOfInt 2 m.diff ++
      bytesOf 1 m.action.code) := rfl

theorem statusCurtailment_eq : statusCurtailment s =
    bytesOf 1 s.bu.level.percent ++ flagByte s.image.curtailSource ++
    optBytes 4 (if s.image.curtailSource then
      some (bytesOf 1 s.inputLevel.percent ++ bytesOf 1 s.bu.debounced.percent ++ leftBytes s.bu.debounce) else none) ++
    optBytes 4 (s.bu.collection.map fun c => bytesOf 1 c.level.percent ++ bytesOf 1 (stationMask c.expected) ++ leftBytes c.timer) ++
    flagByte s.bu.frameHeard := rfl

theorem statusShares_eq : statusShares s =
    bytesOf 2 s.bu.heldHeater ++ bytesOf 2 s.bu.heldPurge ++ bytesOf 1 s.rank ++ bytesOf 1 (s.bu.view.countP (!·.stale)) ++
    bytesOf 1 (s.bu.view.countP (·.stale)) := by
  rw [List.countP_eq_length_filter, List.countP_eq_length_filter]
  rfl

theorem supplyBytes_eq (p : Supply) : supplyBytes s p =
    bytesOf 2 (s.ownDemand p).floor ++ bytesOf 2 (s.ownDemand p).want ++ bytesOf 2 (s.beff p) ++ bytesOf 2 (s.computedGrant p) ++
    bytesOf 2 (s.heldGrant p) ++ flagByte s.bl.isolated ++
    (let floors := (s.ownDemand p).floor + ((s.peersCounted p).map (·.floor)).sum
     if s.bl.isolated then optNat 2 none ++ optNat 1 none
     else optNat 2 (some floors) ++ optNat 1 (some (if s.beff p = 0 then 1 else if s.beff p ≤ floors then 2 else 3))) := by
  unfold supplyBytes
  cases s.bl.isolated <;> rw [List.append_assoc _ (optNat 2 _)] <;> rfl

end

/-! ### The requests (R175, R176, R177, R179) -/

section
variable {s : State}

/-- A read that is served at any time (R175). -/
theorem exec_read_early {r : Request} (hp : s.portReady) (he : r.early = true) (hl : r.fixedLength = some 0)
    (ho : r ≠ .faultClear ∧ r ≠ .runResume) {t : State} {body : List Byte} (hserve : serveOwner r [] s.heard = ⟨t, .ok, body⟩) :
    exec (r.command []) s = .next (sendReply ⟨r.kind, .ok, body⟩ t) := by
  rw [exec_command_early r [] s hp (fun h => (h.elim ho.1 ho.2).elim) (by simp) he (.inr hl), hserve]

end

/-- Settles O23: each body in the encoders of the rules, group by group. -/
theorem readRequestsAnswer : Obligations.ReadRequestsAnswer := by
  refine ⟨fun s hp => ⟨exec_read_early (r := .statusRead) hp rfl rfl ⟨nofun, nofun⟩ rfl,
    exec_read_early (r := .faultRead) hp rfl rfl ⟨nofun, nofun⟩ rfl, exec_read_early (r := .eventRead) hp rfl rfl ⟨nofun, nofun⟩ rfl,
    fun hr => ⟨exec_of_serve (r := .zoneRead) hp hr (by simp) (by simp) (.inr rfl) rfl,
      exec_of_serve (r := .viewRead) hp hr (by simp) (by simp) (.inr rfl) rfl⟩⟩, ?_⟩
  intro u1 u2 u4 i2 flag opt o1 o2 age left stations record
  have hu1 : u1 = bytesOf 1 := rfl
  have hu2 : u2 = bytesOf 2 := bytesOf_two.symm
  have hu4 : u4 = bytesOf 4 := by rw [bytesOf_four, ← hu2]
  have hi2 : i2 = bytesOfInt 2 := by
    change (fun v : Int => u2 (BitVec.ofInt 16 v).toNat) = _
    rw [hu2]
    rfl
  have hflag : flag = flagByte := flagByte_eq.symm
  have hopt : opt = optBytes := optBytes_eq.symm
  have ho1 : o1 = optNat 1 := by
    change (fun o : Option Nat => opt 1 (o.map u1)) = _
    rw [hopt]
    rfl
  have ho2 : o2 = optNat 2 := by
    change (fun o : Option Nat => opt 2 (o.map u2)) = _
    rw [hopt, hu2]
    rfl
  have hage : age = ageBytes := by
    change (fun o : Option Nat => u2 (min 65535 (o.getD 65535))) = _
    rw [hu2]
    rfl
  have hleft : left = leftBytes := by
    rw [leftBytes_eq, ← hu2] <;> rfl
  have hstations : stations = stationMask := rfl
  have hrecord : record = recordBytes := by
    rw [recordBytes_eq, ← hu1, ← hu4, ← ho2, ← hopt, ← hstations] <;> rfl
  clear_value record stations left age o2 o1 opt flag i2 u4 u2 u1
  subst hu1 hu2 hu4 hi2 hflag hopt ho1 ho2 hage hleft hstations hrecord
  refine ⟨fun s => ⟨⟨eventMask s.lp.events, summaryMask s.fl.summary, rfl, rfl, fun h => ?_, fun h => ?_, ?_⟩, rfl, ?_⟩,
    fun t z k m g x r => ?_⟩
  · exact setMask_of_sublist h (by decide)
  · exact setMask_of_sublist h (by decide)
  · rw [statusBody, statusStartup_eq, statusRun, statusZones, statusHeat_eq, statusGas_eq, statusBoat_eq, statusShares_eq,
      statusCurtailment_eq, statusLink, statusFaults, statusPort] <;> rfl
  · rw [viewBody, supplyBytes_eq, supplyBytes_eq]
    rfl
  · refine ⟨?_, ?_, ?_, ?_, ?_, ?_, ?_⟩
    · cases t <;> rfl
    · cases z <;> rfl
    · cases k <;> rfl
    · cases m <;> rfl
    · cases g <;> rfl
    · cases x <;> rfl
    · cases r <;> rfl

end Sys2Proof.Machine
end

section
/-!
PROOF. The step record body (R195, R196): what is written by its layout is read back, and what is ignored does not matter.
-/
namespace Sys2Proof.Machine

/-! ### Fields in a body -/

theorem byteAt_append (pre ys : List Byte) (k : Nat) : byteAt (pre ++ ys) (pre.length + k) = byteAt ys k := by
  rw [byteAt, List.getD_append_right _ _ _ _ (by omega), Nat.add_sub_cancel_left, byteAt]

theorem at1_append (pre ys : List Byte) (k : Nat) : at1 (pre ++ ys) (pre.length + k) = at1 ys k := by
  rw [at1, byteAt_append, at1]

theorem at2_append (pre ys : List Byte) (k : Nat) : at2 (pre ++ ys) (pre.length + k) = at2 ys k := by
  rw [at2, Nat.add_assoc, at1_append, at1_append, at2]

theorem toNat_byte {v : Nat} (h : v < 256) : (BitVec.ofNat 8 v).toNat = v := by
  rw [BitVec.toNat_ofNat]; omega

theorem toNat_pair {v : Nat} (h : v < 65536) : (BitVec.ofNat 8 (v >>> 8)).toNat * 256 + (BitVec.ofNat 8 v).toNat = v := by
  rw [BitVec.toNat_ofNat, BitVec.toNat_ofNat, Nat.shiftRight_eq_div_pow]
  omega

theorem toInt_pair {v : Int} (h : -32768 ≤ v ∧ v ≤ 32767) : (BitVec.ofNat 16
    ((BitVec.ofNat 8 ((BitVec.ofInt 16 v).toNat >>> 8)).toNat * 256 + (BitVec.ofNat 8 (BitVec.ofInt 16 v).toNat).toNat)).toInt = v := by
  rw [toNat_pair (BitVec.isLt _), BitVec.ofNat_toNat, BitVec.setWidth_eq]
  exact BitVec.toInt_ofInt_eq_self (by decide) (by norm_num; omega) (by norm_num; omega)

section
variable {ys : List Byte} {k : Nat}

theorem at2_head {v : Nat} (h : v < 65536) : at2 (bytesOf 2 v ++ ys) 0 = v := toNat_pair h
theorem at1_head {v : Nat} (h : v < 256) : at1 (bytesOf 1 v ++ ys) 0 = v := toNat_byte h
theorem at2s_head {v : Int} (h : -32768 ≤ v ∧ v ≤ 32767) : at2s (bytesOfInt 2 v ++ ys) 0 = v := toInt_pair h

theorem at2s_append (pre ys : List Byte) (k : Nat) : at2s (pre ++ ys) (pre.length + k) = at2s ys k := by
  rw [at2s, at2_append, at2s]

theorem at2_skip_two (v : Nat) : at2 (bytesOf 2 v ++ ys) (k + 2) = at2 ys k := Nat.add_comm k 2 ▸ at2_append (bytesOf 2 v) ys k
theorem at2_skip_one (v : Nat) : at2 (bytesOf 1 v ++ ys) (k + 1) = at2 ys k := Nat.add_comm k 1 ▸ at2_append (bytesOf 1 v) ys k
theorem at1_skip_two (v : Nat) : at1 (bytesOf 2 v ++ ys) (k + 2) = at1 ys k := Nat.add_comm k 2 ▸ at1_append (bytesOf 2 v) ys k
theorem at2_skip_int (v : Int) : at2 (bytesOfInt 2 v ++ ys) (k + 2) = at2 ys k := at2_skip_two _
theorem at1_skip_int (v : Int) : at1 (bytesOfInt 2 v ++ ys) (k + 2) = at1 ys k := at1_skip_two _
theorem at2s_skip_int (v : Int) : at2s (bytesOfInt 2 v ++ ys) (k + 2) = at2s ys k :=
  Nat.add_comm k 2 ▸ at2s_append (bytesOfInt 2 v) ys k

end

/-! ### The two bytes of bits -/

section
variable (r : RawStep)

theorem flags_bits : r.flags.getLsbD 0 = r.thermal.isSome ∧ r.flags.getLsbD 1 = r.gas.isSome ∧
    r.flags.getLsbD 2 = r.boat.isSome := by
  unfold RawStep.flags
  generalize r.thermal.isSome = a
  generalize r.gas.isSome = b
  generalize r.boat.isSome = c
  revert a b c
  decide

theorem conditionByte_bits : (⟨r.conditionByte.getLsbD 0, r.conditionByte.getLsbD 1, r.conditionByte.getLsbD 2,
    r.conditionByte.getLsbD 3⟩ : Conditions) = r.conditions ∧ r.conditionByte.getLsbD 7 = r.last := by
  unfold RawStep.conditionByte
  obtain ⟨a, b, c, d⟩ := r.conditions
  generalize r.last = e
  revert a b c d e
  decide

/-! ### The parts one after the other (R195) -/

def RawStep.headBytes : List Byte := bytesOf 2 r.label ++ [r.flags]
def RawStep.thermalBytes : List Byte := (r.thermal.map RawThermal.bytes).getD []
def RawStep.gasBytes : List Byte := (r.gas.map GasPart.bytes).getD []
def RawStep.boatBytes : List Byte := (r.boat.map BoatPart.bytes).getD []
def RawStep.endBytes : List Byte := [r.conditionByte] ++ bytesOf 2 r.dwell ++ bytesOf 2 r.timeout

theorem bytes_eq : r.bytes = r.headBytes ++ (r.thermalBytes ++ (r.gasBytes ++ (r.boatBytes ++ r.endBytes))) := by
  simp [RawStep.bytes, RawStep.headBytes, RawStep.thermalBytes, RawStep.gasBytes, RawStep.boatBytes, RawStep.endBytes]

theorem thermalBytes_length : r.thermalBytes.length = if r.thermal.isSome then 15 else 0 := by
  unfold RawStep.thermalBytes
  cases r.thermal <;> rfl

theorem gasBytes_length : r.gasBytes.length = if r.gas.isSome then 7 else 0 := by
  unfold RawStep.gasBytes
  cases r.gas <;> rfl

theorem boatBytes_length : r.boatBytes.length = if r.boat.isSome then 6 else 0 := by
  unfold RawStep.boatBytes
  cases r.boat <;> rfl

theorem gasOffset_flags : gasOffset r.flags = (r.headBytes ++ r.thermalBytes).length := by
  rw [gasOffset, (flags_bits r).1, List.length_append, thermalBytes_length]
  rfl

theorem boatOffset_flags : boatOffset r.flags = (r.headBytes ++ r.thermalBytes ++ r.gasBytes).length := by
  rw [boatOffset, gasOffset_flags, (flags_bits r).2.1, List.length_append (bs := r.gasBytes), gasBytes_length]

theorem completionOffset_flags :
    completionOffset r.flags = (r.headBytes ++ r.thermalBytes ++ r.gasBytes ++ r.boatBytes).length := by
  rw [completionOffset, boatOffset_flags, (flags_bits r).2.2, List.length_append (bs := r.boatBytes), boatBytes_length]

theorem byteAt_bytes_flags : byteAt r.bytes 2 = r.flags := by
  rw [bytes_eq]; rfl

theorem bytes_length : r.bytes.length = completionOffset r.flags + 5 := by
  rw [completionOffset_flags, bytes_eq]
  have hend : r.endBytes.length = 5 := rfl
  simp only [List.length_append, hend]
  omega

variable {r}

/-- The fields of a record that fit their widths, taken apart (R195). -/
theorem fits_iff : r.fits = true ↔ (r.label < 65536 ∧ r.dwell < 65536 ∧ r.timeout < 65536) ∧
    (∀ p, r.thermal = some p → (-32768 ≤ p.centre ∧ p.centre ≤ 32767) ∧
      (∀ z, -32768 ≤ p.offsets.get z ∧ p.offsets.get z ≤ 32767) ∧ p.rate < 256 ∧ p.band < 65536) ∧
    (∀ p, r.gas = some p → p.flows.purge < 65536 ∧ p.flows.carrier < 65536 ∧ p.flows.oxidant < 65536 ∧ p.requirement < 256) ∧
    (∀ p, r.boat = some p → p.target < 65536 ∧ p.speed < 65536 ∧ p.droop < 65536) := by
  have hall (f : Zone → Bool) : PerZone.all f = true ↔ ∀ z, f z = true := by
    simp only [PerZone.all, Bool.and_eq_true]
    exact ⟨fun ⟨⟨⟨⟨h1, h2⟩, h3⟩, h4⟩, h5⟩ z => by cases z <;> assumption, fun h => ⟨⟨⟨⟨h _, h _⟩, h _⟩, h _⟩, h _⟩⟩
  simp only [RawStep.fits, fitsBytes, fitsSigned, Bool.and_eq_true, decide_eq_true_iff, Option.all_eq_true, hall, and_assoc]
  norm_num

variable (h : r.fits = true)
include h

theorem read_thermal : (if r.flags.getLsbD 0 then some (⟨at2s r.bytes 3, ⟨at2s r.bytes 5, at2s r.bytes 7, at2s r.bytes 9,
    at2s r.bytes 11, at2s r.bytes 13⟩, at1 r.bytes 15, at2 r.bytes 16⟩ : RawThermal) else none) = r.thermal := by
  obtain ⟨-, hthermal, -⟩ := fits_iff.1 h
  rw [(flags_bits r).1, bytes_eq]
  cases hp : r.thermal with
  | none => rfl
  | some p =>
    obtain ⟨hcentre, hoffsets, hrate, hband⟩ := hthermal p hp
    have hbytes (ys : List Byte) : r.thermalBytes ++ ys = bytesOfInt 2 p.centre ++ (bytesOfInt 2 (p.offsets.get .z1) ++
        (bytesOfInt 2 (p.offsets.get .z2) ++ (bytesOfInt 2 (p.offsets.get .z3) ++ (bytesOfInt 2 (p.offsets.get .z4) ++
        (bytesOfInt 2 (p.offsets.get .z5) ++ (bytesOf 1 p.rate ++ (bytesOf 2 p.band ++ ys))))))) := by
      rw [RawStep.thermalBytes, hp]; rfl
    generalize r.gasBytes ++ (r.boatBytes ++ r.endBytes) = ys
    have hat2s (k : Nat) : at2s (r.headBytes ++ (r.thermalBytes ++ ys)) (k + 3) = at2s (r.thermalBytes ++ ys) k :=
      Nat.add_comm k 3 ▸ at2s_append r.headBytes _ k
    have hat2 (k : Nat) : at2 (r.headBytes ++ (r.thermalBytes ++ ys)) (k + 3) = at2 (r.thermalBytes ++ ys) k :=
      Nat.add_comm k 3 ▸ at2_append r.headBytes _ k
    have hat1 (k : Nat) : at1 (r.headBytes ++ (r.thermalBytes ++ ys)) (k + 3) = at1 (r.thermalBytes ++ ys) k :=
      Nat.add_comm k 3 ▸ at1_append r.headBytes _ k
    rw [Option.isSome_some, if_pos rfl, hat2s 0, hat2s 2, hat2s 4, hat2s 6, hat2s 8, hat2s 10, hat1 12, hat2 13, hbytes]
    simp only [at2s_skip_int, at2_skip_int, at1_skip_int, at2_skip_one, at2s_head hcentre, at2s_head (hoffsets _), at1_head hrate,
      at2_head hband]
    rfl

theorem read_gas : (if r.flags.getLsbD 1 then some (⟨⟨at2 r.bytes (gasOffset r.flags), at2 r.bytes (gasOffset r.flags + 2),
    at2 r.bytes (gasOffset r.flags + 4)⟩, at1 r.bytes (gasOffset r.flags + 6)⟩ : GasPart) else none) = r.gas := by
  obtain ⟨-, -, hgas, -⟩ := fits_iff.1 h
  have hb : r.bytes = (r.headBytes ++ r.thermalBytes) ++ (r.gasBytes ++ (r.boatBytes ++ r.endBytes)) := by
    rw [bytes_eq, List.append_assoc]
  have hat (k : Nat) : at2 r.bytes (gasOffset r.flags + k) = at2 (r.gasBytes ++ (r.boatBytes ++ r.endBytes)) k := by
    rw [hb, gasOffset_flags, at2_append]
  have hat1 (k : Nat) : at1 r.bytes (gasOffset r.flags + k) = at1 (r.gasBytes ++ (r.boatBytes ++ r.endBytes)) k := by
    rw [hb, gasOffset_flags, at1_append]
  have hat0 : at2 r.bytes (gasOffset r.flags) = at2 (r.gasBytes ++ (r.boatBytes ++ r.endBytes)) 0 := hat 0
  rw [(flags_bits r).2.1, hat0, hat, hat, hat1, RawStep.gasBytes]
  cases hp : r.gas with
  | none => rfl
  | some p =>
    obtain ⟨hpurge, hcarrier, hoxidant, hrequirement⟩ := hgas p hp
    have hbytes (ys : List Byte) : p.bytes ++ ys = bytesOf 2 p.flows.purge ++ (bytesOf 2 p.flows.carrier ++
        (bytesOf 2 p.flows.oxidant ++ (bytesOf 1 p.requirement ++ ys))) := rfl
    simp only [Option.isSome_some, Option.map_some, Option.getD_some, if_true, hbytes, at2_skip_two, at1_skip_two, at2_head hpurge,
      at2_head hcarrier, at2_head hoxidant, at1_head hrequirement]

theorem read_boat : (if r.flags.getLsbD 2 then some (⟨at2 r.bytes (boatOffset r.flags), at2 r.bytes (boatOffset r.flags + 2),
    at2 r.bytes (boatOffset r.flags + 4)⟩ : BoatPart) else none) = r.boat := by
  obtain ⟨-, -, -, hboat⟩ := fits_iff.1 h
  have hb : r.bytes = (r.headBytes ++ r.thermalBytes ++ r.gasBytes) ++ (r.boatBytes ++ r.endBytes) := by
    simp only [bytes_eq, List.append_assoc]
  have hat (k : Nat) : at2 r.bytes (boatOffset r.flags + k) = at2 (r.boatBytes ++ r.endBytes) k := by
    rw [hb, boatOffset_flags, at2_append]
  have hat0 : at2 r.bytes (boatOffset r.flags) = at2 (r.boatBytes ++ r.endBytes) 0 := hat 0
  rw [(flags_bits r).2.2, hat0, hat, hat, RawStep.boatBytes]
  cases hp : r.boat with
  | none => rfl
  | some p =>
    obtain ⟨htarget, hspeed, hdroop⟩ := hboat p hp
    have hbytes (ys : List Byte) : p.bytes ++ ys = bytesOf 2 p.target ++ (bytesOf 2 p.speed ++ (bytesOf 2 p.droop ++ ys)) := rfl
    simp only [Option.isSome_some, Option.map_some, Option.getD_some, if_true, hbytes, at2_skip_two, at2_head htarget,
      at2_head hspeed, at2_head hdroop]

theorem readStep_bytes : readStep r.bytes = some r := by
  obtain ⟨⟨hlabel, hdwell, htimeout⟩, -⟩ := fits_iff.1 h
  have hb : r.bytes = (r.headBytes ++ r.thermalBytes ++ r.gasBytes ++ r.boatBytes) ++ r.endBytes := by
    simp only [bytes_eq, List.append_assoc]
  have hlabel' : at2 r.bytes 0 = r.label := by
    rw [bytes_eq]
    exact toNat_pair hlabel
  have hcond : byteAt r.bytes (completionOffset r.flags) = r.conditionByte := by
    rw [hb, completionOffset_flags]
    exact byteAt_append _ _ 0
  have hdwell' : at2 r.bytes (completionOffset r.flags + 1) = r.dwell := by
    rw [hb, completionOffset_flags, at2_append]
    exact toNat_pair hdwell
  have htimeout' : at2 r.bytes (completionOffset r.flags + 3) = r.timeout := by
    rw [hb, completionOffset_flags, at2_append]
    exact toNat_pair htimeout
  simp only [readStep, byteAt_bytes_flags]
  rw [if_neg (not_not.2 (bytes_length r)), read_thermal h, read_gas h, read_boat h, hlabel', hcond, hdwell', htimeout',
    (conditionByte_bits r).1, (conditionByte_bits r).2]

end

theorem readStep_isSome_iff (body : List Byte) : (readStep body).isSome ↔ body.length =
    8 + (if (byteAt body 2).getLsbD 0 then 15 else 0) + (if (byteAt body 2).getLsbD 1 then 7 else 0) +
      (if (byteAt body 2).getLsbD 2 then 6 else 0) := by
  rw [Option.isSome_iff_ne_none, Ne, readStep_eq_none_iff, not_not]
  unfold completionOffset boatOffset gasOffset
  omega

/-! ### Ignored bits (R196) -/

/-- Bits that a mask does not select do not change those that it does. -/
theorem getLsbD_or_of_and_eq_zero {x y m : Byte} {i : Nat} (h : y &&& m = 0) (hi : m.getLsbD i = true) :
    (x ||| y).getLsbD i = x.getLsbD i := by
  have hy : y.getLsbD i = false := by
    have hbit := congrArg (fun b : Byte => b.getLsbD i) h
    simpa [BitVec.getLsbD_and, hi] using hbit
  rw [BitVec.getLsbD_or, hy, Bool.or_false]

theorem byteAt_set_ne {b : List Byte} {i j : Nat} (x : Byte) (h : i ≠ j) : byteAt (b.set j x) i = byteAt b i := by
  simp [byteAt, List.getD_eq_getElem?_getD, List.getElem?_set_ne h.symm]

theorem byteAt_set_self {b : List Byte} {i : Nat} (x : Byte) (h : i < b.length) : byteAt (b.set i x) i = x := by
  simp [byteAt, List.getD_eq_getElem?_getD, h]

/-- Two bodies of one length that agree in every byte but the flags and the conditions, and in the bits of these that are read, are
read alike. -/
theorem readStep_congr {a b : List Byte} (hlen : a.length = b.length)
    (hflags : ∀ i, i < 3 → (byteAt a 2).getLsbD i = (byteAt b 2).getLsbD i)
    (hcond : ∀ i, i < 4 ∨ i = 7 → (byteAt a (b.length - 5)).getLsbD i = (byteAt b (b.length - 5)).getLsbD i)
    (hrest : ∀ i, i ≠ 2 → i ≠ b.length - 5 → byteAt a i = byteAt b i) : readStep a = readStep b := by
  have hg : gasOffset (byteAt a 2) = gasOffset (byteAt b 2) := by rw [gasOffset, gasOffset, hflags 0 (by decide)]
  have hm : boatOffset (byteAt a 2) = boatOffset (byteAt b 2) := by rw [boatOffset, boatOffset, hg, hflags 1 (by decide)]
  have hk : completionOffset (byteAt a 2) = completionOffset (byteAt b 2) := by
    rw [completionOffset, completionOffset, hm, hflags 2 (by decide)]
  have h1 (i : Nat) (h2 : i ≠ 2) (h5 : i ≠ b.length - 5) : at1 a i = at1 b i := by rw [at1, hrest i h2 h5, at1]
  have h2 (i : Nat) (ha : i ≠ 2 ∧ i + 1 ≠ 2) (hb : i ≠ b.length - 5 ∧ i + 1 ≠ b.length - 5) : at2 a i = at2 b i := by
    rw [at2, h1 i ha.1 hb.1, h1 (i + 1) ha.2 hb.2, at2]
  have h2s (i : Nat) (ha : i ≠ 2 ∧ i + 1 ≠ 2) (hb : i ≠ b.length - 5 ∧ i + 1 ≠ b.length - 5) : at2s a i = at2s b i := by
    rw [at2s, h2 i ha hb, at2s]
  simp only [readStep, hlen, hg, hm, hk, hflags 0 (by decide), hflags 1 (by decide), hflags 2 (by decide)]
  by_cases h : b.length = completionOffset (byteAt b 2) + 5
  · have hend : completionOffset (byteAt b 2) = b.length - 5 := by omega
    have hthermal (hbit : (byteAt b 2).getLsbD 0 = true) : 18 ≤ b.length - 5 := by
      rw [← hend, completionOffset, boatOffset, gasOffset, if_pos hbit]; omega
    have hgas (hbit : (byteAt b 2).getLsbD 1 = true) :
        3 ≤ gasOffset (byteAt b 2) ∧ gasOffset (byteAt b 2) + 7 ≤ b.length - 5 := by
      rw [← hend, completionOffset, boatOffset, if_pos hbit, gasOffset]; omega
    have hboat (hbit : (byteAt b 2).getLsbD 2 = true) :
        3 ≤ boatOffset (byteAt b 2) ∧ boatOffset (byteAt b 2) + 6 ≤ b.length - 5 := by
      rw [← hend, completionOffset, if_pos hbit, boatOffset, gasOffset]; omega
    have hend3 : 3 ≤ b.length - 5 := by rw [← hend, completionOffset, boatOffset, gasOffset]; omega
    rw [if_neg (not_not.2 h), if_neg (not_not.2 h), hend, hcond 0 (by decide), hcond 1 (by decide), hcond 2 (by decide),
      hcond 3 (by decide), hcond 7 (by decide), h2 0 (by decide) (by omega), h2 (b.length - 5 + 1) (by omega) (by omega),
      h2 (b.length - 5 + 3) (by omega) (by omega)]
    rw [Option.some.injEq, RawStep.mk.injEq]
    refine ⟨rfl, ?_, ?_, ?_, rfl, rfl, rfl, rfl⟩
    · refine ite_congr rfl (fun hbit => ?_) fun _ => rfl
      have := hthermal hbit
      rw [h2s 3 (by omega) (by omega), h2s 5 (by omega) (by omega), h2s 7 (by omega) (by omega), h2s 9 (by omega) (by omega),
        h2s 11 (by omega) (by omega), h2s 13 (by omega) (by omega), h1 15 (by omega) (by omega), h2 16 (by omega) (by omega)]
    · refine ite_congr rfl (fun hbit => ?_) fun _ => rfl
      have := hgas hbit
      rw [h2 _ (by omega) (by omega), h2 _ (by omega) (by omega), h2 _ (by omega) (by omega), h1 _ (by omega) (by omega)]
    · refine ite_congr rfl (fun hbit => ?_) fun _ => rfl
      have := hboat hbit
      rw [h2 _ (by omega) (by omega), h2 _ (by omega) (by omega), h2 _ (by omega) (by omega)]
  · rw [if_pos h, if_pos h]

/-- Settles O32: each part is read back at its offset, whatever parts stand before it. -/
theorem stepRecordRoundTrip : Obligations.StepRecordRoundTrip := by
  refine ⟨fun raw => readStep_bytes, readStep_isSome_iff, fun body flags cond hflags hcond hlen => ?_⟩
  have hlen' : (body.set 2 (byteAt body 2 ||| flags)).length = body.length := List.length_set
  refine readStep_congr (by simp) (fun i hi => ?_) (fun i hi => ?_) fun i h2 h5 => ?_
  · rw [byteAt_set_ne _ (by omega), byteAt_set_self _ (by omega), getLsbD_or_of_and_eq_zero hflags]
    interval_cases i <;> rfl
  · rw [byteAt_set_self _ (by omega), getLsbD_or_of_and_eq_zero hcond]
    rcases hi with hi | rfl
    · interval_cases i <;> rfl
    · rfl
  · rw [byteAt_set_ne _ h5, byteAt_set_ne _ h2]

end Sys2Proof.Machine
end

section
/-!
PROOF. The share computation: one station's grant (R112 to R117), and what the stations of a stack with one view are granted together
(R115, R116, R118).
-/
namespace Sys2Proof.Machine

/-! ### The extra by rank (R116) -/

section
variable {own : Counted} {peers : List Counted} {k r : Nat} {ks : List Nat}

theorem extra_le_rankExtra : own.extra ≤ rankExtra own peers own.rank := by
  rw [rankExtra, if_pos rfl]; omega

/-- The own extra is bounded by the extra asked for and by what there is to share. -/
theorem ownExtra_le (own : Counted) (peers : List Counted) (ks : List Nat) (r : Nat) :
    ownExtra own peers ks r ≤ own.extra ∧ ownExtra own peers ks r ≤ r := by
  induction ks generalizing r with
  | nil => exact ⟨Nat.zero_le _, Nat.zero_le _⟩
  | cons k ks ih =>
    simp only [ownExtra]
    split
    · exact ih r
    · split
      · next hall =>
        split
        · next hk => exact ⟨le_rfl, (hk ▸ extra_le_rankExtra).trans hall⟩
        · exact ⟨(ih _).1, (ih _).2.trans (Nat.sub_le _ _)⟩
      · next hpos hshort =>
        split
        · next hk =>
          have hextra : own.extra ≤ rankExtra own peers k := hk ▸ extra_le_rankExtra
          refine ⟨Nat.div_le_of_le_mul ?_, Nat.div_le_of_le_mul ?_⟩
          · exact Nat.mul_le_mul_right _ (by omega)
          · rw [Nat.mul_comm r]; exact Nat.mul_le_mul_right _ hextra
        · exact ⟨Nat.zero_le _, Nat.zero_le _⟩

/-- A rank that is not served any more gets nothing. -/
theorem ownExtra_of_not_mem (h : own.rank ∉ ks) : ownExtra own peers ks r = 0 := by
  induction ks generalizing r with
  | nil => rfl
  | cons k ks ih =>
    obtain ⟨hk, hks⟩ := not_or.1 (mt List.mem_cons.2 h)
    simp only [ownExtra, if_neg hk, ih hks, ite_self]

/-- The own rank is the next to be served. -/
theorem ownExtra_cons_self (hk : own.rank = k) (h : own.rank ∉ ks) : ownExtra own peers (k :: ks) r =
    if rankExtra own peers k ≤ r then own.extra else r * own.extra / rankExtra own peers k := by
  simp only [ownExtra, if_pos hk, ownExtra_of_not_mem h]
  by_cases h0 : rankExtra own peers k = 0
  · have hextra : own.extra = 0 := Nat.eq_zero_of_le_zero (h0 ▸ hk ▸ extra_le_rankExtra)
    rw [if_pos h0, if_pos (by omega), hextra]
  · rw [if_neg h0]

/-- Another rank is the next to be served. -/
theorem ownExtra_cons_of_ne (h : own.rank ≠ k) : ownExtra own peers (k :: ks) r =
    if r < rankExtra own peers k then 0 else ownExtra own peers ks (r - rankExtra own peers k) := by
  simp only [ownExtra, if_neg h]
  by_cases h0 : rankExtra own peers k = 0
  · rw [if_pos h0, h0, if_neg (Nat.not_lt_zero r), Nat.sub_zero]
  · rw [if_neg h0]
    by_cases hall : rankExtra own peers k ≤ r
    · rw [if_pos hall, if_neg (Nat.not_lt.2 hall)]
    · rw [if_neg hall, if_pos (Nat.lt_of_not_le hall)]

end

/-- Two ranks served one after the other. -/
theorem ite_lt_add (f : Nat → Nat) (a b r : Nat) :
    (if r < a then 0 else if r - a < b then 0 else f (r - a - b)) = if r < b + a then 0 else f (r - (b + a)) := by
  split_ifs
  · rfl
  · omega
  · rfl
  · omega
  · omega
  · exact congrArg f (by omega)

/-- The extra in closed form: what the higher ranks ask for goes first (R116). -/
theorem ownExtra_eq (own : Counted) (peers : List Counted) (r : Nat) (h : own.rank ≤ 3) : ownExtra own peers [3, 2, 1, 0] r =
    if r < (List.range 4).foldl (fun n k => if own.rank < k then n + rankExtra own peers k else n) 0 then 0
    else if rankExtra own peers own.rank ≤
        r - (List.range 4).foldl (fun n k => if own.rank < k then n + rankExtra own peers k else n) 0 then own.extra
    else (r - (List.range 4).foldl (fun n k => if own.rank < k then n + rankExtra own peers k else n) 0) * own.extra /
      rankExtra own peers own.rank := by
  have habove : (List.range 4).foldl (fun n k => if own.rank < k then n + rankExtra own peers k else n) 0 =
      (if own.rank < 1 then rankExtra own peers 1 else 0) + ((if own.rank < 2 then rankExtra own peers 2 else 0) +
        if own.rank < 3 then rankExtra own peers 3 else 0) := by
    simp only [List.range_succ, List.range_zero, List.nil_append, List.cons_append, List.foldl_cons, List.foldl_nil]
    split_ifs <;> omega
  rw [habove]
  have hrank : own.rank = 3 ∨ own.rank = 2 ∨ own.rank = 1 ∨ own.rank = 0 := by omega
  rcases hrank with hk | hk | hk | hk
  · rw [ownExtra_cons_self hk (by simp [hk])]
    simp [hk]
  · rw [ownExtra_cons_of_ne (by omega), ownExtra_cons_self hk (by simp [hk])]
    simp [hk]
  · rw [ownExtra_cons_of_ne (by omega), ownExtra_cons_of_ne (by omega), ownExtra_cons_self hk (by simp [hk]), ite_lt_add (fun x =>
      if rankExtra own peers 1 ≤ x then own.extra else x * own.extra / rankExtra own peers 1)]
    simp [hk]
  · rw [ownExtra_cons_of_ne (by omega), ownExtra_cons_of_ne (by omega), ownExtra_cons_of_ne (by omega),
      ownExtra_cons_self hk (by simp [hk]), ite_lt_add fun x => if x < rankExtra own peers 1 then 0 else
        if rankExtra own peers 0 ≤ x - rankExtra own peers 1 then own.extra
        else (x - rankExtra own peers 1) * own.extra / rankExtra own peers 0,
      ite_lt_add fun x => if rankExtra own peers 0 ≤ x then own.extra else x * own.extra / rankExtra own peers 0]
    simp [hk]

/-! ### One station (R112 to R117) -/

theorem normalGrant_le {beff : Nat} {own : Counted} {peers : List Counted} :
    normalGrant beff own peers ≤ own.floor + own.extra ∧ normalGrant beff own peers ≤ beff := by
  unfold normalGrant
  split
  · exact ⟨Nat.zero_le _, Nat.zero_le _⟩
  · split
    · next hfull =>
      have hfloor : own.floor ≤ floorSum own peers := Nat.le_add_right _ _
      refine ⟨(Nat.div_le_of_le_mul ?_).trans (Nat.le_add_right _ own.extra), Nat.div_le_of_le_mul ?_⟩
      · exact Nat.mul_le_mul_right _ hfull
      · rw [Nat.mul_comm beff]; exact Nat.mul_le_mul_right _ hfloor
    · next hrest =>
      obtain ⟨hextra, hr⟩ := ownExtra_le own peers [3, 2, 1, 0] (beff - floorSum own peers)
      have hfloor : own.floor ≤ floorSum own peers := Nat.le_add_right _ _
      omega

/-- Settles O59: the extra is bounded rank by rank, and the grant by the branch that the floors select. -/
theorem ownShare : Obligations.OwnShare := by
  intro s p floor want others
  refine ⟨fun hr => ?_, fun hr => if_neg (by simp [hr]), rfl, rfl, fun hi => if_pos hi, fun hi => ?_, fun hle => ?_, rfl⟩
  · rw [State.rank, if_pos hr]
    cases s.rs.run <;> rfl
  · have hgrant : s.computedGrant p = normalGrant (s.beff p) (s.ownCounted p) (s.peersCounted p) := if_neg (by simp [hi])
    have hsum : floorSum (s.ownCounted p) (s.peersCounted p) = floor + others := rfl
    rw [hgrant, normalGrant, hsum]
    refine ⟨fun h => if_pos h, fun hpos hfull => ?_, fun hrest => ?_⟩
    · rw [if_neg (by omega), if_pos hfull]
      rfl
    · rw [if_neg (by omega), if_neg (by omega)]
      rfl
  · unfold State.computedGrant
    split
    · exact ⟨min_le_left _ _, (min_le_right _ _).trans (Nat.div_le_self _ _)⟩
    · obtain ⟨hwant, hbeff⟩ := normalGrant_le (beff := s.beff p) (own := s.ownCounted p) (peers := s.peersCounted p)
      have hall : (s.ownCounted p).floor + (s.ownCounted p).extra = want := Nat.add_sub_cancel' hle
      exact ⟨hall ▸ hwant, hbeff⟩

/-! ### A stack with one agreed view (R118) -/

/-- The extra that stations of one rank ask for together, counted from the whole stack. -/
def stackExtra (stations : List Counted) (k : Nat) : Nat := (stations.map fun c => if c.rank = k then c.extra else 0).sum

/-- The extra a station gets where the extras of the ranks are agreed (R116). -/
def agreedExtra (E : Nat → Nat) (own : Counted) : List Nat → Nat → Nat
  | [], _ => 0
  | k :: ks, r =>
    if E k = 0 then agreedExtra E own ks r
    else if E k ≤ r then if own.rank = k then own.extra else agreedExtra E own ks (r - E k)
    else if own.rank = k then r * own.extra / E k
    else 0

/-- The grant a station computes where the floors and the extras of the stack are agreed (R115). -/
def agreedGrant (beff F : Nat) (E : Nat → Nat) (own : Counted) : Nat :=
  if beff = 0 then 0
  else if beff ≤ F then beff * own.floor / F
  else own.floor + agreedExtra E own [3, 2, 1, 0] (beff - F)

section
variable {α : Type}

theorem sum_map_eraseIdx (f : α → Nat) (l : List α) (d : α) (i : Nat) (h : i < l.length) :
    f (l.getD i d) + ((l.eraseIdx i).map f).sum = (l.map f).sum := by
  induction l generalizing i with
  | nil => exact absurd h (Nat.not_lt_zero _)
  | cons x xs ih =>
    cases i with
    | zero => rfl
    | succ i =>
      have hi := ih i (Nat.lt_of_succ_lt_succ h)
      simp only [List.getD_cons_succ, List.eraseIdx_cons_succ, List.map_cons, List.sum_cons]
      omega

theorem sum_map_filter (p : α → Prop) [DecidablePred p] (f : α → Nat) (l : List α) :
    ((l.filter fun x => decide (p x)).map f).sum = (l.map fun x => if p x then f x else 0).sum := by
  induction l with
  | nil => rfl
  | cons x xs ih =>
    rw [List.map_cons, List.sum_cons, ← ih]
    by_cases h : p x <;> simp [h]

/-- The values of a function at the places of a list, place by place. -/
theorem map_range_getD {β : Type} (f : α → β) (l : List α) (d : α) :
    (List.range l.length).map (fun i => f (l.getD i d)) = l.map f := by
  refine List.ext_getElem (by simp) fun i hi hi' => ?_
  have hlt : i < l.length := by simpa using hi
  rw [List.getElem_map, List.getElem_map, List.getElem_range, List.getD_eq_getElem _ _ hlt]

/-- Shares rounded down do not exceed the share of the sum. -/
theorem sum_map_div_le (f : α → Nat) (n : Nat) (l : List α) : (l.map fun x => f x / n).sum ≤ (l.map f).sum / n := by
  induction l with
  | nil => simp
  | cons x xs ih =>
    rw [List.map_cons, List.sum_cons, List.map_cons, List.sum_cons]
    exact (Nat.add_le_add_left ih _).trans (Nat.div_add_div_le_add_div)

end

section
variable {stations : List Counted} {E : Nat → Nat} {ks : List Nat}

theorem rankExtra_stack {i : Nat} (h : i < stations.length) (k : Nat) :
    rankExtra (stations.getD i ⟨0, 0, 0⟩) (stations.eraseIdx i) k = stackExtra stations k := by
  rw [rankExtra, sum_map_filter (fun c : Counted => c.rank = k)]
  exact sum_map_eraseIdx (fun c : Counted => if c.rank = k then c.extra else 0) stations ⟨0, 0, 0⟩ i h

theorem ownExtra_stack {i : Nat} (h : i < stations.length) (r : Nat) :
    ownExtra (stations.getD i ⟨0, 0, 0⟩) (stations.eraseIdx i) ks r =
      agreedExtra (stackExtra stations) (stations.getD i ⟨0, 0, 0⟩) ks r := by
  induction ks generalizing r with
  | nil => rfl
  | cons k ks ih => simp only [ownExtra, agreedExtra, rankExtra_stack h, ih]

theorem normalGrant_stack {i : Nat} (h : i < stations.length) (beff : Nat) :
    normalGrant beff (stations.getD i ⟨0, 0, 0⟩) (stations.eraseIdx i) =
      agreedGrant beff (stations.map (·.floor)).sum (stackExtra stations) (stations.getD i ⟨0, 0, 0⟩) := by
  have hfloor : floorSum (stations.getD i ⟨0, 0, 0⟩) (stations.eraseIdx i) = (stations.map (·.floor)).sum :=
    sum_map_eraseIdx (·.floor) stations ⟨0, 0, 0⟩ i h
  rw [normalGrant, agreedGrant, hfloor, ownExtra_stack h]

theorem agreedExtra_of_not_mem {own : Counted} (h : own.rank ∉ ks) (r : Nat) : agreedExtra E own ks r = 0 := by
  induction ks generalizing r with
  | nil => rfl
  | cons k ks ih =>
    obtain ⟨hk, hks⟩ := not_or.1 (mt List.mem_cons.2 h)
    simp only [agreedExtra, if_neg hk, ih hks, ite_self]

/-- Rank after rank, the stack takes no more than there is. -/
theorem sum_agreedExtra_le (stations : List Counted) (hks : ks.Nodup) (r : Nat) :
    (stations.map fun c => agreedExtra (stackExtra stations) c ks r).sum ≤ r := by
  induction ks generalizing r with
  | nil => simp [agreedExtra]
  | cons k ks ih =>
    obtain ⟨hk, hks⟩ := List.nodup_cons.1 hks
    simp only [agreedExtra]
    split
    · exact ih hks r
    · next hpos =>
      split
      · next hall =>
        have hsplit (c : Counted) : (if c.rank = k then c.extra else agreedExtra (stackExtra stations) c ks (r - stackExtra stations k)) =
            (if c.rank = k then c.extra else 0) + agreedExtra (stackExtra stations) c ks (r - stackExtra stations k) := by
          by_cases hc : c.rank = k
          · rw [if_pos hc, if_pos hc, agreedExtra_of_not_mem (hc ▸ hk), Nat.add_zero]
          · rw [if_neg hc, if_neg hc, Nat.zero_add]
        have hrest := ih hks (r - stackExtra stations k)
        simp only [hsplit, List.sum_map_add]
        change stackExtra stations k + _ ≤ r
        omega
      · have hshare (c : Counted) : (if c.rank = k then r * c.extra / stackExtra stations k else 0) =
            r * (if c.rank = k then c.extra else 0) / stackExtra stations k := by
          split <;> simp
        simp only [hshare]
        refine (sum_map_div_le _ _ _).trans ?_
        rw [List.sum_map_mul_left]
        exact (Nat.mul_div_cancel r (Nat.pos_of_ne_zero hpos)).le

theorem sum_agreedGrant_le (stations : List Counted) (beff : Nat) :
    (stations.map (agreedGrant beff (stations.map (·.floor)).sum (stackExtra stations))).sum ≤ beff := by
  unfold agreedGrant
  split
  · simp
  · split
    · refine (sum_map_div_le _ _ _).trans ?_
      rw [List.sum_map_mul_left]
      exact Nat.div_le_of_le_mul (Nat.mul_comm _ _).le
    · rw [List.sum_map_add]
      have hextra := sum_agreedExtra_le (ks := [3, 2, 1, 0]) stations (by decide) (beff - (stations.map (·.floor)).sum)
      change (stations.map (·.floor)).sum + _ ≤ beff
      omega

end

/-- Settles O60: the extra in closed form, and the sum over the stations bounded branch by branch. -/
theorem stackSharesAddUp : Obligations.StackSharesAddUp := by
  refine ⟨ownExtra_eq, fun beff stations => ?_⟩
  have hagreed : ((List.range stations.length).map fun i => normalGrant beff (stations.getD i ⟨0, 0, 0⟩) (stations.eraseIdx i)) =
      stations.map (agreedGrant beff (stations.map (·.floor)).sum (stackExtra stations)) := by
    rw [← map_range_getD _ _ (⟨0, 0, 0⟩ : Counted)]
    exact List.map_congr_left fun i hi => normalGrant_stack (List.mem_range.1 hi) beff
  rw [hagreed]
  exact sum_agreedGrant_le stations beff

end Sys2Proof.Machine
end

section
/-!
PROOF. Frames of peers at BL and BU (R107 to R109, R132, R133, R146 to R154): a frame is met or is none, a peer's frame has its effects
in either order, and then each kind of frame.
-/
namespace Sys2Proof.Machine

section
variable {s u v : State} {code : StationCode} {effect plain : State → State}

/-! ### A frame is met, or is none to BL -/

theorem receiving_iff (s : State) :
    s.receiving = true ↔ s.bl.phase ≠ .inactive ∧ (s.bl.line = .idle ∨ s.bl.line = .busy ∧ s.bl.attempt = none) := by
  unfold State.receiving
  cases s.bl.line <;> simp

theorem noFrame_eq (s : State) : noFrame s = { s with bl := { s.bl with line :=
    match s.bl.line with
    | .idle | .recessive _ => .recessive 0
    | other => other } } := by
  unfold noFrame
  cases s.bl.line <;> rfl

theorem meetFrame_of_receiving (effect : State → State) (h : s.receiving = true) :
    meetFrame effect s = effect { s with bl := { s.bl with line := .recessive 0 } } := if_pos h

theorem meetFrame_of_not_receiving (effect : State → State) (h : ¬ s.receiving = true) : meetFrame effect s = noFrame s := if_neg h

theorem receiveFrame_of_clash (effect : State → State) (h : s.receiving = true) (hown : code.toNat + 1 = s.image.station) :
    receiveFrame code effect s = reportFault .addressClash (.station s.image.station) (.number s.image.station)
      { s with bl := { s.bl with line := .recessive 0 } } := by
  rw [receiveFrame, meetFrame_of_receiving _ h, ← hown]
  exact if_pos hown

theorem receiveFrame_of_peer (effect : State → State) (h : s.receiving = true) (hother : code.toNat + 1 ≠ s.image.station) :
    receiveFrame code effect s = withPeerFrame effect { s with bl := { s.bl with line := .recessive 0 } } := by
  rw [receiveFrame, meetFrame_of_receiving _ h]
  exact if_neg hother

/-! ### A peer is heard -/

/-- What a valid peer frame does at BL, reactions apart (R133, R140). -/
def silenceRestarted (s : State) : State :=
  { s with bl := { s.bl with silence := .running (5 * s.image.announcePeriod), isolated := false } }

/-- An effect that does not read what the reactions set does the same in states that differ by reactions alone. -/
theorem withoutReactions_congr (hblind : ∀ u, (plain u.withoutReactions).withoutReactions = (plain u).withoutReactions)
    (h : u.withoutReactions = v.withoutReactions) : (plain u).withoutReactions = (plain v).withoutReactions := by
  rw [← hblind u, h, hblind]

theorem silenceRestarted_withoutReactions (h : u.withoutReactions = v.withoutReactions) :
    (silenceRestarted u).withoutReactions = (silenceRestarted v).withoutReactions :=
  withoutReactions_congr (fun _ => rfl) h

theorem silenceRestarted_of_not_isolated (h : s.bl.isolated = false) :
    silenceRestarted s = { s with bl := { s.bl with silence := .running (5 * s.image.announcePeriod) } } := by
  unfold silenceRestarted
  rw [← h]

theorem peerHeard_withoutReactions (s : State) : (peerHeard s).withoutReactions = (silenceRestarted s).withoutReactions := by
  unfold peerHeard
  dsimp only
  split
  · exact commit_withoutReactions _ _
  · next h => rw [silenceRestarted_of_not_isolated (by simpa using h)]

theorem peerHeard_level (s : State) : (peerHeard s).bu.level = s.bu.level := by
  unfold peerHeard
  dsimp only
  split <;> simp

theorem mem_peerHeard_events {k : EventKind} (h : k ∈ s.lp.events) : k ∈ (peerHeard s).lp.events := by
  unfold peerHeard
  dsimp only
  split
  · exact mem_raiseEvent.2 (.inr (mem_commit_events s h))
  · exact h

theorem link_mem_peerHeard (h : s.bl.isolated = true) : .link ∈ (peerHeard s).lp.events := by
  unfold peerHeard
  dsimp only
  rw [if_pos h]
  exact mem_raiseEvent.2 (.inl rfl)

/-! ### The effects of a peer's frame, in either order -/

/-- An effect in BU and what it does, reactions apart: it does not read what a reaction sets, nor what BL does of a peer heard. -/
structure FrameEffect (effect plain : State → State) : Prop where
  does : ∀ u, (effect u).withoutReactions = (plain u).withoutReactions
  blind : ∀ u, (plain u.withoutReactions).withoutReactions = (plain u).withoutReactions
  commutes : ∀ u, silenceRestarted (plain u) = plain (silenceRestarted u)
  events : ∀ u k, k ∈ u.lp.events → k ∈ (effect u).lp.events
  isolated : ∀ u, (effect u).bl.isolated = u.bl.isolated

theorem FrameEffect.does_of_eq (he : FrameEffect effect plain) (h : u.withoutReactions = v.withoutReactions) :
    (effect u).withoutReactions = (plain v).withoutReactions :=
  (he.does u).trans (withoutReactions_congr he.blind h)

/-- The choice of the order is counted where there is one (log 16). -/
def orderChosen (s : State) : State := { s with free := if s.bl.isolated then s.free + 1 else s.free }

/-- A peer's frame does the same at BL and in BU in either order (R117, log 16). -/
theorem withPeerFrame_withoutReactions (he : FrameEffect effect plain) (s : State) :
    (withPeerFrame effect s).withoutReactions = (plain (silenceRestarted (orderChosen s))).withoutReactions := by
  unfold withPeerFrame orderChosen
  split
  · dsimp only
    split
    · exact he.does_of_eq (peerHeard_withoutReactions _)
    · rw [peerHeard_withoutReactions, silenceRestarted_withoutReactions (he.does _), he.commutes]
  · exact he.does_of_eq (peerHeard_withoutReactions s)

/-- A peer's frame that ends ISOLATED raises LINK (R140). -/
theorem link_mem_withPeerFrame (he : FrameEffect effect plain) (h : s.bl.isolated = true) :
    .link ∈ (withPeerFrame effect s).lp.events := by
  unfold withPeerFrame
  rw [if_pos h]
  dsimp only
  split
  · exact he.events _ _ (link_mem_peerHeard h)
  · exact link_mem_peerHeard ((he.isolated _).trans h)

/-- An event that the effect in BU raises is pending after the frame, in either order. -/
theorem mem_withPeerFrame_of_effect {k : EventKind} (h : ∀ u : State, u.bu.level = s.bu.level → k ∈ (effect u).lp.events) :
    k ∈ (withPeerFrame effect s).lp.events := by
  unfold withPeerFrame
  split
  · dsimp only
    split
    · exact h _ (peerHeard_level _)
    · exact mem_peerHeard_events (h { s with free := s.free + 1 } rfl)
  · exact h _ (peerHeard_level s)

/-! ### The level in force -/

theorem setLevel_withoutReactions (l : Level) (s : State) :
    (setLevel l s).withoutReactions = State.withoutReactions { s with bu := { s.bu with level := l } } := by
  unfold setLevel
  split
  · next h => rw [h]
  · exact commit_withoutReactions _ _

theorem mem_setLevel_events {k : EventKind} (l : Level) (h : k ∈ s.lp.events) : k ∈ (setLevel l s).lp.events := by
  unfold setLevel
  split
  · exact h
  · exact mem_raiseEvent.2 (.inr (mem_commit_events s h))

theorem curtail_mem_setLevel {l : Level} (h : l ≠ s.bu.level) : .curtail ∈ (setLevel l s).lp.events := by
  unfold setLevel
  rw [if_neg h]
  exact mem_raiseEvent.2 (.inl rfl)

theorem levelSet_withoutReactions (l : Level) (h : u.withoutReactions = v.withoutReactions) :
    State.withoutReactions { u with bu := { u.bu with level := l } } =
      State.withoutReactions { v with bu := { v.bu with level := l } } :=
  withoutReactions_congr (plain := fun w => { w with bu := { w.bu with level := l } }) (fun _ => rfl) h

/-! ### ANNOUNCE in BU -/

theorem countContentError_effect : FrameEffect countContentError countContentError :=
  ⟨fun _ => rfl, fun _ => rfl, fun _ => rfl, fun _ _ h => h, fun _ => rfl⟩

/-- The entry enters the view, and in JOINING its level may be adopted (R108, R154). -/
def entryTaken (e : ViewEntry) (s : State) : State :=
  { s with bu := { s.bu with
    view := insertEntry e s.bu.view
    level := if s.bl.phase = LinkPhase.joining ∧ s.image.curtailSource = false ∧ s.bu.frameHeard = false ∧
      e.level.percent < s.bu.level.percent then e.level else s.bu.level } }

theorem adoptsAnnounced_iff (s : State) : s.adoptsAnnounced = true ↔
    s.bl.phase = LinkPhase.joining ∧ s.image.curtailSource = false ∧ s.bu.frameHeard = false := by
  simp [State.adoptsAnnounced, and_assoc]

theorem commit_adoptsAnnounced (s0 s : State) : (commit s0 s).adoptsAnnounced = s.adoptsAnnounced := by
  simp [State.adoptsAnnounced]

theorem takeEntry_effect (e : ViewEntry) : FrameEffect (takeEntry e) (entryTaken e) where
  does u := by
    unfold takeEntry entryTaken
    dsimp only
    rw [commit_adoptsAnnounced]
    by_cases ha : u.adoptsAnnounced = true
    · obtain ⟨hjoin, hsource, hheard⟩ := (adoptsAnnounced_iff u).1 ha
      rw [if_pos (by exact ha), setLevel_withoutReactions, levelSet_withoutReactions _ (commit_withoutReactions _ _), commit_bu_level]
      simp only [hjoin, hsource, hheard, true_and, Level.lower]
    · rw [if_neg (by exact ha), commit_withoutReactions, if_neg fun h => ha ((adoptsAnnounced_iff u).2 ⟨h.1, h.2.1, h.2.2.1⟩)]
  blind _ := rfl
  commutes _ := rfl
  events u k h := by
    unfold takeEntry
    dsimp only
    split
    · exact mem_setLevel_events _ (mem_commit_events u h)
    · exact mem_commit_events u h
  isolated u := by
    unfold takeEntry
    dsimp only
    split <;> simp [setLevel_isolated]

/-! ### The checks of an ANNOUNCE body -/

theorem readLevel_eq_some {b : Byte} {l : Level} : readLevel b = some l ↔ b.toNat = l.percent := by
  cases l <;> (revert b; decide +kernel)

theorem readRunState_eq_some {b : Byte} {r : RunState} : readRunState b = some r ↔ b.toNat = r.code := by
  cases r <;> (revert b; decide +kernel)

theorem readLevel_isSome (b : Byte) : (readLevel b).isSome ↔ b.toNat ∈ [100, 75, 50, 25] := by
  revert b; decide +kernel

theorem readRunState_isSome (b : Byte) : (readRunState b).isSome ↔ b.toNat ≤ 4 := by
  revert b; decide +kernel

/-- The numbers of an ANNOUNCE body within their ranges (R107). -/
def AnnounceInRange (b : AnnounceBody) : Prop :=
  b.heaterFloor.toNat ≤ b.heaterWant.toNat ∧ b.heaterWant.toNat ≤ 4000 ∧ b.heaterHeld.toNat ≤ 4000 ∧
    b.purgeFloor.toNat ≤ b.purgeWant.toNat ∧ b.purgeWant.toNat ≤ 2400 ∧ b.purgeHeld.toNat ≤ 2400 ∧ b.rank.toNat ≤ 3

theorem readAnnounce_eq_some {n : Nat} {b : AnnounceBody} {e : ViewEntry} : readAnnounce n b = some e ↔
    AnnounceInRange b ∧ ∃ run level, readRunState b.runSummary = some run ∧ readLevel b.level = some level ∧
      e = ⟨n, ⟨b.heaterFloor.toNat, b.heaterWant.toNat, b.heaterHeld.toNat⟩,
        ⟨b.purgeFloor.toNat, b.purgeWant.toNat, b.purgeHeld.toNat⟩, b.rank.toNat, run, level, 0, false⟩ := by
  unfold readAnnounce
  dsimp only
  by_cases hr : AnnounceInRange b
  · rw [if_pos (by exact hr)]
    cases readRunState b.runSummary <;> cases readLevel b.level <;> simp [hr, eq_comm]
  · rw [if_neg (by exact hr)]
    simp [hr]

theorem readAnnounce_isSome (n : Nat) (b : AnnounceBody) : (readAnnounce n b).isSome ↔
    AnnounceInRange b ∧ b.runSummary.toNat ≤ 4 ∧ b.level.toNat ∈ [100, 75, 50, 25] := by
  rw [← readRunState_isSome, ← readLevel_isSome, Option.isSome_iff_exists, Option.isSome_iff_exists, Option.isSome_iff_exists]
  constructor
  · rintro ⟨e, he⟩
    obtain ⟨hr, run, level, hrun, hlevel, -⟩ := readAnnounce_eq_some.1 he
    exact ⟨hr, ⟨run, hrun⟩, level, hlevel⟩
  · rintro ⟨hr, ⟨run, hrun⟩, level, hlevel⟩
    exact ⟨_, readAnnounce_eq_some.2 ⟨hr, run, level, hrun, hlevel, rfl⟩⟩

/-- An insertion puts the entry in place of its station's earlier one and keeps every other (R108). -/
theorem mem_insertEntry_iff (e x : ViewEntry) (view : List ViewEntry) (h : view.Pairwise (·.station < ·.station)) :
    x ∈ insertEntry e view ↔ x = e ∨ x ∈ view ∧ x.station ≠ e.station := by
  induction view with
  | nil => simp [insertEntry]
  | cons y ys ih =>
    obtain ⟨hy, hys⟩ := List.pairwise_cons.1 h
    have hlater (z : ViewEntry) (hz : z ∈ ys) (hle : e.station ≤ y.station) : z.station ≠ e.station := by
      have := hy z hz
      omega
    simp only [insertEntry]
    split
    · next hlt =>
      have hne : y.station ≠ e.station := by omega
      simp only [List.mem_cons]
      refine or_congr_right ⟨?_, And.left⟩
      rintro (rfl | hx)
      · exact ⟨.inl rfl, hne⟩
      · exact ⟨.inr hx, hlater x hx hlt.le⟩
    · split
      · next heq =>
        simp only [List.mem_cons]
        refine or_congr_right ⟨fun hx => ⟨.inr hx, hlater x hx heq.le⟩, ?_⟩
        rintro ⟨rfl | hx, hne⟩
        · exact absurd heq.symm hne
        · exact hx
      · next hne =>
        simp only [List.mem_cons, ih hys]
        constructor
        · rintro (rfl | rfl | ⟨hx, hxe⟩)
          · exact .inr ⟨.inl rfl, Ne.symm hne⟩
          · exact .inl rfl
          · exact .inr ⟨.inr hx, hxe⟩
        · rintro (rfl | ⟨rfl | hx, hxe⟩)
          · exact .inr (.inl rfl)
          · exact .inl rfl
          · exact .inr (.inr ⟨hx, hxe⟩)

end

/-- Settles O54: the frame is met or is none; a peer's is its entry's effect or a content error beside what BL does. -/
theorem announceTaken : Obligations.AnnounceTaken := by
  refine ⟨fun s code b => ?_, fun n b => ⟨?_, fun e he => ?_⟩, fun e view h x => mem_insertEntry_iff e x view h, fun s n =>
    ⟨⟨_, rfl, ?_⟩, ⟨_, rfl, ?_⟩⟩⟩
  · intro receives
    refine ⟨fun hr => ?_, fun hr hown => ?_, fun hr hother => ?_⟩
    · exact congrArg Host.Outcome.next
        ((meetFrame_of_not_receiving _ (mt (receiving_iff s).1 hr)).trans (noFrame_eq s))
    · exact congrArg Host.Outcome.next (receiveFrame_of_clash _ ((receiving_iff s).2 hr) hown)
    · have hexec : exec (.announceReceived code b) s = .next (withPeerFrame (takeAnnounce (code.toNat + 1) b)
          { s with bl := { s.bl with line := .recessive 0 } }) :=
        congrArg Host.Outcome.next (receiveFrame_of_peer _ ((receiving_iff s).2 hr) hother)
      rw [hexec]
      cases hread : readAnnounce (code.toNat + 1) b with
      | none =>
        have htake : takeAnnounce (code.toNat + 1) b = countContentError := by funext v; simp [takeAnnounce, hread]
        rw [htake]
        refine ⟨fun hi t ht => ?_, fun _ => ⟨_, rfl, withPeerFrame_withoutReactions countContentError_effect _⟩, nofun⟩
        cases ht
        exact link_mem_withPeerFrame countContentError_effect hi
      | some e =>
        have htake : takeAnnounce (code.toNat + 1) b = takeEntry e := by funext v; simp [takeAnnounce, hread]
        rw [htake]
        refine ⟨fun hi t ht => ?_, nofun, fun e' he => ⟨_, rfl, ?_⟩⟩
        · cases ht
          exact link_mem_withPeerFrame (takeEntry_effect e) hi
        · cases he
          exact withPeerFrame_withoutReactions (takeEntry_effect e) _
  · rw [readAnnounce_isSome]
    simp only [AnnounceInRange, and_assoc]
  · obtain ⟨-, run, level, hrun, hlevel, rfl⟩ := readAnnounce_eq_some.1 he
    exact ⟨rfl, rfl, rfl, rfl, (readRunState_eq_some.1 hrun).symm, (readLevel_eq_some.1 hlevel).symm, rfl, rfl⟩
  · rw [commit_withoutReactions]
    have hstale : staleEntry s.image.announcePeriod n = fun e : ViewEntry => if e.station = n ∧ e.stale = false then
        { e with stale := true, age := max e.age (3 * s.image.announcePeriod) } else e := by
      funext e
      simp only [staleEntry, Bool.not_eq_true']
    rw [hstale]
  · exact commit_withoutReactions _ _

end Sys2Proof.Machine
end

section
/-!
PROOF. Curtailment (R146 to R153): a peer's CURTAIL and CURTAIL-ACK, the source's inputs with their debounce timer, the ack timer.
-/
namespace Sys2Proof.Machine

section
variable {s : State} {code : StationCode} {level origin : Byte} {l : Level}

/-! ### A frame by its sender -/

theorem receiveFrame_of_unheard (effect : State → State)
    (h : ¬ (s.bl.phase ≠ .inactive ∧ (s.bl.line = .idle ∨ s.bl.line = .busy ∧ s.bl.attempt = none))) :
    receiveFrame code effect s = { s with bl := { s.bl with line :=
      match s.bl.line with
      | .idle | .recessive _ => .recessive 0
      | other => other } } :=
  (meetFrame_of_not_receiving _ (mt (receiving_iff s).1 h)).trans (noFrame_eq s)

/-! ### CURTAIL of a peer -/

/-- The level is set and its acknowledgement queued (R149). -/
def curtailObeyed (l : Level) (station : Nat) (s : State) : State :=
  { s with
    bu := { s.bu with level := l, frameHeard := true }
    bl := { s.bl with
      ackSlot := some ⟨l, station⟩
      attempt := s.bl.attempt.map fun a : Attempt => if a.frame.code = 2 then { a with replaced := true } else a } }

theorem takeCurtail_of_level (h : readLevel level = some l) (station : Nat) (s : State) :
    takeCurtail station level s = queueAck ⟨l, station⟩ { setLevel l s with
      bu := { (setLevel l s).bu with frameHeard := true } } := by
  simp only [takeCurtail, h]

theorem takeCurtail_of_none (h : readLevel level = none) (station : Nat) : takeCurtail station level = countContentError := by
  funext s
  simp only [takeCurtail, h]

theorem takeCurtail_effect (h : readLevel level = some l) (station : Nat) :
    FrameEffect (takeCurtail station level) (curtailObeyed l station) where
  does u := by
    rw [takeCurtail_of_level h]
    exact withoutReactions_congr
      (plain := fun v => queueAck ⟨l, station⟩ { v with bu := { v.bu with frameHeard := true } }) (fun _ => rfl)
      (setLevel_withoutReactions l u)
  blind _ := rfl
  commutes _ := rfl
  events u k hk := by
    rw [takeCurtail_of_level h]
    exact mem_setLevel_events l hk
  isolated u := takeCurtail_isolated station level u

theorem curtail_mem_takeCurtail (h : readLevel level = some l) (hl : l ≠ s.bu.level) (station : Nat) :
    .curtail ∈ (takeCurtail station level s).lp.events := by
  rw [takeCurtail_of_level h]
  exact curtail_mem_setLevel hl

/-! ### CURTAIL-ACK of a peer -/

theorem takeAck_of_bad (h : readLevel level = none ∨ origin.toNat = 0 ∨ 8 < origin.toNat) (station : Nat) :
    takeAck station level origin = countContentError := by
  funext s
  unfold takeAck
  rcases h with h | h
  · rw [h]
  · rw [decide_eq_false (by omega)]
    cases readLevel level <;> rfl

/-- The collection after an acknowledgement, a matching one or not (R151). -/
def ackCounted (station : Nat) (l : Level) (origin : Byte) (s : State) : State :=
  { s with bu := { s.bu with collection :=
    match s.bu.collection with
    | some c => if l = c.level ∧ origin.toNat = s.image.station then acknowledge station c else some c
    | none => none } }

theorem takeAck_eq (h : readLevel level = some l) (hlow : 1 ≤ origin.toNat) (hhigh : origin.toNat ≤ 8) (station : Nat) (s : State) :
    takeAck station level origin s = ackCounted station l origin s := by
  unfold takeAck ackCounted
  rw [h, decide_eq_true ⟨hlow, hhigh⟩]
  dsimp only
  cases hc : s.bu.collection with
  | none => dsimp only; rw [← hc]
  | some c =>
    dsimp only
    split
    · rfl
    · rw [← hc]

theorem takeAck_effect (h : readLevel level = some l) (hlow : 1 ≤ origin.toNat) (hhigh : origin.toNat ≤ 8) (station : Nat) :
    FrameEffect (takeAck station level origin) (ackCounted station l origin) := by
  rw [funext (takeAck_eq h hlow hhigh station)]
  exact ⟨fun _ => rfl, fun _ => rfl, fun _ => rfl, fun _ _ hk => hk, fun _ => rfl⟩

theorem ackCounted_of_match {c : Collection} (hc : s.bu.collection = some c) (hl : l = c.level)
    (ho : origin.toNat = s.image.station) (station : Nat) : ackCounted station l origin s = { s with bu := { s.bu with
      collection := if c.expected.erase station = [] then none else some { c with expected := c.expected.erase station } } } := by
  unfold ackCounted acknowledge
  rw [hc]
  dsimp only
  rw [if_pos ⟨hl, ho⟩]
  simp only [List.isEmpty_iff]

theorem ackCounted_of_other (h : s.bu.collection = none ∨
      ∃ c, s.bu.collection = some c ∧ (l ≠ c.level ∨ origin.toNat ≠ s.image.station)) (station : Nat) :
    ackCounted station l origin s = s := by
  unfold ackCounted
  rcases h with hc | ⟨c, hc, hne⟩
  · rw [hc]
    dsimp only
    rw [← hc]
  · rw [hc]
    dsimp only
    rw [if_neg (by tauto), ← hc]

/-! ### The source's own level -/

/-- The level adopted at its source, the collection ended, the CURTAIL queued (R148). -/
theorem adoptLocal_withoutReactions (s : State) : (adoptLocal s).withoutReactions = State.withoutReactions { s with
    bu := { s.bu with level := s.bu.debounced, collection := none }
    bl := { s.bl with
      curtailSlot := some s.bu.debounced
      attempt := s.bl.attempt.map fun a : Attempt => if a.frame.code = 1 then { a with replaced := true } else a } } :=
  withoutReactions_congr (plain := fun v => queueCurtail s.bu.debounced { v with bu := { v.bu with collection := none } })
    (fun _ => rfl) (setLevel_withoutReactions s.bu.debounced s)

theorem curtail_mem_adoptLocal (h : s.bu.debounced ≠ s.bu.level) : .curtail ∈ (adoptLocal s).lp.events :=
  curtail_mem_setLevel h

end

/-- Settles O55: a frame by its sender and its body; the timers and inputs by their branches. -/
theorem curtailTaken : Obligations.CurtailTaken := by
  refine ⟨fun s code level origin => ?_, fun b l => readLevel_eq_some, rfl, ⟨rfl, rfl, rfl, rfl⟩, fun _ => rfl,
    fun s cl1 cl0 => ⟨fun h => ?_, fun hr hs hne => ?_⟩, fun s => ⟨fun n hn =>
    ⟨adoptLocal { s with bu.debounced := s.inputLevel, bu.debounce := .stopped }, ?_, ?_, fun hne => ?_⟩, fun h => ?_,
    fun c n hc ht hne => ?_, fun hc => ?_⟩⟩
  · intro receives
    refine ⟨fun hr => ⟨congrArg Host.Outcome.next (receiveFrame_of_unheard _ hr),
      congrArg Host.Outcome.next (receiveFrame_of_unheard _ hr)⟩, fun hr hown => ?_, fun hr hother => ?_⟩
    · exact ⟨congrArg Host.Outcome.next (receiveFrame_of_clash _ ((receiving_iff s).2 hr) hown),
        congrArg Host.Outcome.next (receiveFrame_of_clash _ ((receiving_iff s).2 hr) hown)⟩
    · have hcurtail : exec (.curtailReceived code level) s = .next (withPeerFrame (takeCurtail (code.toNat + 1) level)
          { s with bl := { s.bl with line := .recessive 0 } }) :=
        congrArg Host.Outcome.next (receiveFrame_of_peer _ ((receiving_iff s).2 hr) hother)
      have hack : exec (.curtailAckReceived code level origin) s = .next (withPeerFrame
          (takeAck (code.toNat + 1) level origin) { s with bl := { s.bl with line := .recessive 0 } }) :=
        congrArg Host.Outcome.next (receiveFrame_of_peer _ ((receiving_iff s).2 hr) hother)
      rw [hcurtail, hack]
      refine ⟨fun h => ⟨_, rfl, ?_⟩, fun l h => ⟨_, rfl, withPeerFrame_withoutReactions (takeCurtail_effect h _) _, fun hl => ?_⟩,
        fun h => ⟨_, rfl, ?_⟩, fun l h hlow hhigh => ⟨_, rfl, fun c hc hl ho => ?_, fun h' => ?_⟩⟩
      · rw [takeCurtail_of_none h]
        exact withPeerFrame_withoutReactions countContentError_effect _
      · exact mem_withPeerFrame_of_effect fun u hu => curtail_mem_takeCurtail h (by rw [hu]; exact hl) _
      · rw [takeAck_of_bad h]
        exact withPeerFrame_withoutReactions countContentError_effect _
      · rw [withPeerFrame_withoutReactions (takeAck_effect h hlow hhigh _), ackCounted_of_match (c := c) (by exact hc) hl (by exact ho)]
        rfl
      · rw [withPeerFrame_withoutReactions (takeAck_effect h hlow hhigh _), ackCounted_of_other (by exact h')]
        rfl
  · exact congrArg Host.Outcome.next (if_neg fun ⟨hr, hs, hne⟩ => by
      rcases h with h | h | h
      · exact absurd hr (by simp [State.released] at h ⊢; exact h)
      · exact absurd hs (by rw [h]; nofun)
      · exact hne h)
  · exact congrArg Host.Outcome.next (if_pos ⟨hr, hs, hne⟩)
  · exact congrArg Host.Outcome.next (if_pos (by rw [hn]; rfl))
  · exact adoptLocal_withoutReactions _
  · exact curtail_mem_adoptLocal hne
  · exact congrArg Host.Outcome.next (if_neg (by rw [h]; nofun))
  · have hexec : exec .ackTimerExpiry s = .next { reportFault .curtailUnconfirmed (.stations c.expected) (.stations c.expected) s with
        bu.collection := none } := by
      show Host.Outcome.next _ = _
      rw [hc]
      dsimp only
      rw [if_pos (by rw [ht]; rfl), if_neg (by simpa using hne)]
    rw [hexec, reportFault_of_note _ _ _ _ rfl]
    rfl
  · show Host.Outcome.next _ = _
    rw [hc]

end Sys2Proof.Machine
end

section
/-!
PROOF. What BL receives and drives (R129 to R133, R193): frames given up, the check, and the part's own frames as bytes and cells.
-/
namespace Sys2Proof.Machine

section
variable {s : State} {f : WireFrame} {kind : BitVec 3} {code : StationCode} {header length : Byte} {body : List Byte}
  {check : BitVec 16}

/-! ### Frames given up (R132, R133) -/

theorem kindLength_eq (kind : BitVec 3) : kindLength kind =
    if kind = 1#3 then some 1 else if kind = 2#3 then some 2 else if kind = 4#3 then some 15 else none := by
  revert kind; decide

theorem kindLength_of_other (h : kind ∉ [1#3, 2#3, 4#3]) : kindLength kind = none := by
  simp only [List.mem_cons, List.not_mem_nil, or_false, not_or] at h
  obtain ⟨h1, h2, h4⟩ := h
  rw [kindLength_eq, if_neg h1, if_neg h2, if_neg h4]

theorem exec_bankFrameError_of_discarded (h : frameDiscarded f = true) :
    exec (.bankFrameError f) s = .next (meetFrame countRxError s) := congrArg Host.Outcome.next (if_pos h)

theorem exec_otherKindFrame_of_other (h : kind ∉ [1#3, 2#3, 4#3]) : exec (.otherKindFrame kind code body) s =
    .next (meetFrame (fun u => if stationNumber code = u.image.station then u else peerHeard u) s) :=
  congrArg Host.Outcome.next (if_pos (by rw [kindLength_of_other h]; rfl))

theorem frameMalformed_complete : frameMalformed (.complete header length body check) = false ↔
    length.toNat ≤ 15 ∧ header.extractLsb' 0 2 = 3#2 ∧ ∀ n, kindLength (header.extractLsb' 5 3) = some n → length.toNat = n := by
  unfold frameMalformed
  cases hk : kindLength (header.extractLsb' 5 3) <;> simp [hk, and_assoc]

/-- A body length agrees with its kind's (R131). -/
theorem agrees_kindLength_iff (kind : BitVec 3) (n : Nat) : (∀ m, kindLength kind = some m → n = m) ↔
    (kind = 1#3 → n = 1) ∧ (kind = 2#3 → n = 2) ∧ (kind = 4#3 → n = 15) := by
  rw [kindLength_eq]
  by_cases h1 : kind = 1#3
  · simp [h1]
  · by_cases h2 : kind = 2#3
    · simp [h2]
    · by_cases h4 : kind = 4#3 <;> simp [h1, h2, h4]

theorem frameDiscarded_complete : frameDiscarded (.complete header length body check) = false ↔
    length.toNat ≤ 15 ∧ header.extractLsb' 0 2 = 3#2 ∧ check = crc16 (header :: length :: body) ∧
      (header.extractLsb' 5 3 = 1#3 → length.toNat = 1) ∧ (header.extractLsb' 5 3 = 2#3 → length.toNat = 2) ∧
      (header.extractLsb' 5 3 = 4#3 → length.toNat = 15) := by
  rw [frameDiscarded, Bool.or_eq_false_iff, frameMalformed_complete, agrees_kindLength_iff, frameCrcFails, decide_eq_false_iff_not,
    not_not, eq_comm (a := crc16 _)]
  tauto

/-! ### The check (R193) -/

theorem crcByte_eq (reg : BitVec 16) (b : Byte) : crcByte reg b = [7, 6, 5, 4, 3, 2, 1, 0].foldl (fun (r : BitVec 16) i =>
    if r.getLsbD 15 = b.getLsbD i then r <<< 1 else (r <<< 1) ^^^ 0x1021#16) reg := by
  unfold crcByte
  refine congrArg (fun step => List.foldl step reg _) ?_
  funext r i
  rw [crcBit, ite_not]

theorem crc16_append (bs : List Byte) (b : Byte) : crc16 (bs ++ [b]) = crcByte (crc16 bs) b := List.foldl_append

/-! ### The part's own frames as bytes (R131) -/

theorem headerByte_fields (kind : BitVec 3) (code : StationCode) : (headerByte kind code).extractLsb' 0 2 = 3#2 ∧
    (headerByte kind code).extractLsb' 5 3 = kind ∧ (headerByte kind code).extractLsb' 2 3 = code := by
  revert kind code; decide

theorem stationNumber_stationCode {n : Nat} (h1 : 1 ≤ n) (h8 : n ≤ 8) : stationNumber (stationCode n) = n := by
  interval_cases n <;> rfl

theorem bytes16_append (w : BitVec 16) : w.extractLsb' 8 8 ++ w.extractLsb' 0 8 = w := by
  rw [BitVec.extractLsb'_append_extractLsb'_eq_extractLsb' (by rfl)]
  exact BitVec.extractLsb'_eq_self

theorem OwnFrame.length_byte (f : OwnFrame) : (BitVec.ofNat 8 f.body.length).toNat = f.body.length := by
  have := f.body_length_le
  rw [BitVec.toNat_ofNat]
  omega

theorem OwnFrame.kindLength_code (f : OwnFrame) : kindLength f.code = some f.body.length := by
  cases f <;> rfl

/-- What the part sends passes every check (R131, R133). -/
theorem OwnFrame.not_discarded (station : Nat) (f : OwnFrame) : frameDiscarded (.complete (headerByte f.code (stationCode station))
    (BitVec.ofNat 8 f.body.length) f.body (crc16 (headerByte f.code (stationCode station) :: BitVec.ofNat 8 f.body.length :: f.body))) =
    false := by
  obtain ⟨hlow, hkind, -⟩ := headerByte_fields f.code (stationCode station)
  rw [frameDiscarded, Bool.or_eq_false_iff, frameMalformed_complete, hkind, f.length_byte, f.kindLength_code]
  refine ⟨⟨f.body_length_le, hlow, fun n hn => Option.some.inj hn⟩, ?_⟩
  simp [frameCrcFails]

/-! ### Its cells, and what a receiver assembles from them (R131, R132) -/

/-- The cells after the SOF are read as the bits of the bytes. -/
theorem OwnFrame.cells_asSent (station : Nat) (f : OwnFrame) :
    (f.cells station).tail.map Cell.asSent = (f.bytes station).flatMap bitsHigh := by
  simp [OwnFrame.cells, Function.comp_def]

theorem OwnFrame.cells_length (station : Nat) (f : OwnFrame) :
    (f.cells station).length = 1 + 8 + 8 + 8 * f.body.length + 16 := by
  rw [OwnFrame.cells, List.length_cons, List.length_map, flatMap_bitsHigh_length, f.bytes_length]
  omega

theorem OwnFrame.cells_getElem? (station : Nat) (f : OwnFrame) {i j : Nat} (hi : i < (f.bytes station).length) (hj : j < 8) :
    (f.cells station)[1 + 8 * i + j]? = some (.bit ((byteAt (f.bytes station) i).getLsbD (7 - j))) := by
  have hin : 8 * i + j < ((f.bytes station).flatMap bitsHigh).length := by rw [flatMap_bitsHigh_length]; omega
  have hbit : ((f.bytes station).flatMap bitsHigh)[8 * i + j] = (byteAt (f.bytes station) i).getLsbD (7 - j) := by
    have hget := getD_flatMap_of_length bitsHigh_length false (f.bytes station) i j hj
    rw [List.getD_eq_getElem _ _ hin, List.getElem?_eq_getElem hi] at hget
    rw [hget, byteAt, List.getD_eq_getElem _ _ hi]
    exact bitsHigh_getD hj
  rw [OwnFrame.cells, show 1 + 8 * i + j = (8 * i + j) + 1 by omega, List.getElem?_cons_succ, List.getElem?_map,
    List.getElem?_eq_getElem hin, hbit]
  rfl

/-- As many bytes are read as have all their bits. -/
theorem bytesHigh_take_flatMap (bs : List Byte) (k : Nat) : bytesHigh ((bs.flatMap bitsHigh).take k) = bs.take (k / 8) := by
  induction bs generalizing k with
  | nil => simp [bytesHigh]
  | cons b bs ih =>
    by_cases hk : k < 8
    · rw [bytesHigh_of_short _ (by rw [List.length_take]; omega), Nat.div_eq_of_lt hk, List.take_zero]
    · obtain ⟨m, rfl⟩ : ∃ m, k = 8 + m := ⟨k - 8, by omega⟩
      have htake : ((b :: bs).flatMap bitsHigh).take (8 + m) = [b].flatMap bitsHigh ++ (bs.flatMap bitsHigh).take m := by
        rw [List.flatMap_cons, ← bitsHigh_length b, List.take_append, List.take_of_length_le (by omega), Nat.add_sub_cancel_left]
        simp
      rw [htake, bytesHigh_flatMap_append, ih, Nat.add_div_left _ (by decide)]
      rfl

theorem readFrame_of_whole {bits : List Bool} (hlen : length.toNat = body.length) (hle : body.length ≤ 15)
    (h : bytesHigh bits = header :: length :: body ++ bytes16 check) : readFrame bits = .complete header length body check := by
  have hdrop : (body ++ bytes16 check).drop length.toNat = bytes16 check := by rw [hlen, List.drop_left]
  have htake : (body ++ bytes16 check).take length.toNat = body := by rw [hlen, List.take_left]
  unfold readFrame
  rw [h, List.cons_append, List.cons_append]
  dsimp only
  rw [if_neg (by omega), hdrop, htake]
  exact congrArg (WireFrame.complete header length body) (bytes16_append check)

/-- A frame cut short in its bytes ends early (R132). -/
theorem readFrame_of_cut {bits : List Bool} {q : Nat} (hlen : length.toNat = body.length) (hle : body.length ≤ 15)
    (h : bytesHigh bits = (header :: length :: body ++ bytes16 check).take q) (hq : q < body.length + 4) :
    ∃ bytes, readFrame bits = .earlyEnd bytes := by
  unfold readFrame
  match q with
  | 0 => rw [h]; exact ⟨_, rfl⟩
  | 1 => rw [h]; exact ⟨_, rfl⟩
  | q + 2 =>
    rw [h, List.cons_append, List.cons_append, List.take_succ_cons, List.take_succ_cons]
    dsimp only
    rw [if_neg (by omega)]
    have hshort : (((body ++ bytes16 check).take q).drop length.toNat).length < 2 := by
      rw [List.length_drop, List.length_take]
      omega
    match hrest : ((body ++ bytes16 check).take q).drop length.toNat, hshort with
    | [], _ => exact ⟨_, rfl⟩
    | [_], _ => exact ⟨_, rfl⟩

/-! ### What the part drives (R129) -/

theorem lineDominant_iff (stations : List (Option Cell)) (us : Nat) :
    lineDominant stations us = true ↔ ∃ c, some c ∈ stations ∧ c.drivesAt us = true := by
  rw [lineDominant, List.any_eq_true]
  constructor
  · rintro ⟨_ | c, hc, hd⟩
    · cases hd
    · exact ⟨c, hc, hd⟩
  · rintro ⟨c, hc, hd⟩
    exact ⟨some c, hc, hd⟩

theorem drivesBankLine_of_cell (i : Nat) {us : Nat} (h : us < 8) :
    s.drivesBankLine (8 * i + us) = s.cellsInFlight[i]?.any (·.drivesAt us) := by
  show s.cellsInFlight[(8 * i + us) / 8]?.any (·.drivesAt ((8 * i + us) % 8)) = _
  rw [show (8 * i + us) / 8 = i by omega, show (8 * i + us) % 8 = us by omega]

end

/-- Settles O56: what is received by whether the part receives, what is sent by its bytes and their cells. -/
theorem framesChecked : Obligations.FramesChecked := by
  refine ⟨fun s hr => ?_, fun s hp => ⟨fun ha => ?_, fun ha => ?_⟩, fun s hp => ?_, fun s hp hline => ?_, fun s => ?_,
    fun header length body check => ⟨rfl, rfl, frameDiscarded_complete⟩, fun n f h1 h8 => ?_,
    ⟨rfl, by decide +kernel, fun bs b => ?_⟩, fun l o b => ⟨rfl, rfl, rfl, rfl, rfl, rfl⟩, fun us hus => ?_,
    fun stations us => ⟨lineDominant_iff stations us, rfl⟩, fun bit others => ?_, fun s => ⟨fun ha => ?_, fun a ha => ?_,
    fun ha us => ?_, fun a ha i us hus => ?_⟩⟩
  · have hnot : ¬ s.receiving = true := fun h => by
      obtain ⟨hp, hl⟩ := (receiving_iff s).1 h
      rcases hr with hr | ⟨hr, hr'⟩
      · exact hp hr
      · exact hl.elim hr hr'
    refine ⟨fun f hf => ?_, fun kind code body hk => ?_⟩
    · rw [exec_bankFrameError_of_discarded hf, meetFrame_of_not_receiving _ hnot, noFrame_eq] <;> rfl
    · rw [exec_otherKindFrame_of_other hk, meetFrame_of_not_receiving _ hnot, noFrame_eq] <;> rfl
  · exact congrArg Host.Outcome.next (if_pos ⟨hp, by rw [ha]; rfl⟩)
  · exact congrArg Host.Outcome.next (if_neg fun h => by simp [Option.isSome_iff_ne_none.1 ha] at h)
  · exact congrArg Host.Outcome.next (if_neg fun h => h.1 hp)
  · have hr : s.receiving = true := (receiving_iff s).2 ⟨hp, hline⟩
    refine ⟨fun f hf => ?_, fun kind code body hk => ?_⟩
    · rw [exec_bankFrameError_of_discarded hf, meetFrame_of_receiving _ hr]
      rfl
    · rw [exec_otherKindFrame_of_other hk, meetFrame_of_receiving _ hr]
      refine ⟨fun hown => congrArg Host.Outcome.next (if_pos hown), fun hother =>
        ⟨_, congrArg Host.Outcome.next (if_neg hother), peerHeard_withoutReactions _, fun hi => link_mem_peerHeard hi⟩⟩
  · exact congrArg Host.Outcome.next (noFrame_eq s)
  · have hlen := f.length_byte
    have hle := f.body_length_le
    obtain ⟨-, hkind, hcode⟩ := headerByte_fields f.code (stationCode n)
    refine ⟨headerByte f.code (stationCode n), BitVec.ofNat 8 f.body.length, _, rfl, hlen, f.not_discarded n, hkind,
      by rw [hcode]; exact stationNumber_stationCode h1 h8, f.cells_length n, rfl, fun i j hi hj => f.cells_getElem? n hi hj, ?_,
      fun k hk => ?_⟩
    · rw [f.cells_asSent]
      exact readFrame_of_whole hlen hle (bytesHigh_flatMap _)
    · rw [f.cells_asSent]
      exact readFrame_of_cut (q := k / 8) hlen hle (bytesHigh_take_flatMap _ k) (by rw [f.bytes_length] at hk; omega)
  · rw [crc16_append, crcByte_eq]
  · exact ⟨decide_eq_true hus, decide_eq_true_iff, decide_eq_true_iff⟩
  · cases bit <;> simp [lineRead, lineDominant, Cell.drivesAt, Cell.dominantUs, Config.sampleUs]
  · rw [State.frameInFlight, ha]; rfl
  · rw [State.frameInFlight, ha]; rfl
  · rw [State.drivesBankLine, State.cellsInFlight, ha]; rfl
  · rw [drivesBankLine_of_cell i hus, State.cellsInFlight, ha]

end Sys2Proof.Machine
end

section
/-!
PROOF. Attempts on the bank line (R134, R136 to R138, R141): their start, their end by the bits read back, and what each completion does.
-/
namespace Sys2Proof.Machine

section
variable {s : State} {a : Attempt}

/-! ### The start of an attempt (R136) -/

theorem mayAttempt_iff (s : State) : s.mayAttempt = true ↔
    s.bl.phase = .on ∧ s.bl.mute = false ∧ s.bl.attempt = none ∧ s.bl.anyPending = true ∧ s.bl.line = .idle := by
  simp [State.mayAttempt, and_assoc]

theorem exec_attemptStart_of_may (h : s.mayAttempt = true) : exec .attemptStart s =
    .next { s with bl := { s.bl with attempt := some ⟨s.nextFrame, false⟩, line := .busy } } :=
  congrArg Host.Outcome.next (if_pos h)

theorem exec_attemptStart_of_not (h : ¬ s.mayAttempt = true) : exec .attemptStart s = .next s := congrArg Host.Outcome.next (if_neg h)

/-- Whatever is pending, the frame of the lowest kind code starts (R136). -/
theorem exec_attemptStart_of_frame {f : OwnFrame} (hp : s.bl.phase = .on) (hm : s.bl.mute = false) (ha : s.bl.attempt = none)
    (hl : s.bl.line = .idle) (hpend : s.bl.anyPending = true) (hf : s.nextFrame = f) : exec .attemptStart s =
      .next { s with bl := { s.bl with attempt := some ⟨f, false⟩, line := .busy } } := by
  rw [exec_attemptStart_of_may ((mayAttempt_iff s).2 ⟨hp, hm, ha, hpend, hl⟩), hf]

/-! ### Its end without a completion (R136, R137, R141) -/

theorem exec_arbitrationLost (s : State) : exec .arbitrationLost s = .next { s with bl := { s.bl with attempt := none } } := by
  cases ha : s.bl.attempt with
  | none =>
    have hs : s = { s with bl := { s.bl with attempt := none } } := by rw [← ha]
    exact (congrArg Host.Outcome.next (if_neg (by rw [ha]; nofun))).trans (congrArg Host.Outcome.next hs)
  | some a => exact congrArg Host.Outcome.next (if_pos (by rw [ha]; rfl))

theorem exec_attemptAbandoned_below (ha : s.bl.attempt.isSome) (hn : s.bl.abandons < 7) : exec .attemptAbandoned s =
    .next { s with bl := { s.bl with attempt := none, abandons := s.bl.abandons + 1 } } := by
  have hcount : satSucc Config.abandonLimit s.bl.abandons = s.bl.abandons + 1 :=
    if_pos (hn.trans (by decide))
  refine (congrArg Host.Outcome.next (if_pos ha)).trans ?_
  dsimp only
  rw [hcount, if_neg (by unfold Config.abandonLimit; omega)]

theorem exec_attemptAbandoned_eighth (ha : s.bl.attempt.isSome) (hn : s.bl.abandons = 7) : exec .attemptAbandoned s =
    .next (raiseEvent .link (takeFault .linkMute .none .absent
      { s with bl := { s.bl with attempt := none, abandons := 8, mute := true, muteTimer := .running 5000 } })) := by
  refine (congrArg Host.Outcome.next (if_pos ha)).trans ?_
  dsimp only
  rw [hn, show satSucc Config.abandonLimit 7 = 8 from rfl, if_pos (by rfl), enterMute_eq]
  rfl

/-! ### A completion (R123, R134, R138, R150) -/

/-- An attempt ends complete: what BL does beside its slot (R138). -/
def attemptEnded (s : State) : State := { s with bl := { s.bl with attempt := none, abandons := 0, line := .recessive 0 } }

theorem exec_transmitCompletion (ha : s.bl.attempt = some a) :
    exec .transmitCompletion s = .next (completeFrame a (attemptEnded s)) := by
  show Host.Outcome.next _ = _
  rw [ha]
  rfl

/-- A completed ANNOUNCE does at the held grants and the ANNOUNCE slot what R123 says, and no reaction follows it. -/
theorem completeAnnounce_spec (b : AnnounceBody) (s : State) :
    (completeAnnounce b s).withoutReactions = s.withoutReactions ∧ (completeAnnounce b s).bd.pulse = s.bd.pulse ∧
      (completeAnnounce b s).lp.events = s.lp.events ∧
      (∀ p, (completeAnnounce b s).heldGrant p = (raisedGrants b s).heldGrant p) ∧
      ((completeAnnounce b s).bl.announceSlot = true ↔
        (completeAnnounce b s).bu.heldHeater < s.computedGrant .heater ∨
        (completeAnnounce b s).bu.heldPurge < s.computedGrant .purge) := by
  have hheld (p : Supply) : (completeAnnounce b s).heldGrant p = (commit s (raisedGrants b s)).heldGrant p := by
    rw [completeAnnounce_eq, raiseCheck_heldGrant]
  refine ⟨?_, ?_, ?_, fun p => (hheld p).trans (commit_raisedGrants_held b s p), ?_⟩
  · rw [completeAnnounce_eq, raiseCheck_withoutReactions, commit_withoutReactions]
    rfl
  · have hpulsing : (raisedGrants b s).pulsing = s.pulsing := rfl
    rw [completeAnnounce_eq, raiseCheck_bd, commit_pulse, hpulsing]
    cases s.pulsing <;> rfl
  · rw [completeAnnounce_eq, raiseCheck_lp, commit_events, boatReact_events, if_neg fun h => h.1 h.2]
    rfl
  · have hslot : (commit s (raisedGrants b s)).bl.announceSlot = false := by
      have hsame : s.shareInputs = (boatReact s (raisedGrants b s)).shareInputs := by rw [boatReact_shareInputs]; rfl
      rw [commit, flowReact_bl, shareReact, if_pos hsame, boatReact_bl]
      rfl
    have hgrant (p : Supply) : (commit s (raisedGrants b s)).computedGrant p = s.computedGrant p :=
      (commit_computedGrant _ _ p).trans (computedGrant_congr rfl p)
    have hheater : (completeAnnounce b s).bu.heldHeater = (commit s (raisedGrants b s)).bu.heldHeater := hheld .heater
    have hpurge : (completeAnnounce b s).bu.heldPurge = (commit s (raisedGrants b s)).bu.heldPurge := hheld .purge
    rw [hheater, hpurge, completeAnnounce_eq, raiseCheck_announceSlot, hslot, hgrant, hgrant, Bool.false_or, decide_eq_true_iff]

theorem startCollection_eq (s : State) (l : Level) : s.startCollection l =
    if s.freshStations = [] then none else some ⟨l, s.freshStations, .running 500⟩ := by
  simp only [State.startCollection, List.isEmpty_iff, Config.ackMs]

/-! ### The end of an attempt by the bits read back (R129, R136 to R138) -/

theorem cellsEnd_sent (i : Nat) (cells : List Cell) : cellsEnd i cells (cells.map Cell.asSent) = some .transmitCompletion := by
  induction cells generalizing i with
  | nil => rfl
  | cons c cells ih => rw [List.map_cons, cellsEnd, if_pos rfl, ih]

/-- While cells are to come and all were read as sent, the attempt goes on. -/
theorem cellsEnd_take (i : Nat) (cells : List Cell) {k : Nat} (hk : k < cells.length) :
    cellsEnd i cells ((cells.map Cell.asSent).take k) = none := by
  induction cells generalizing i k with
  | nil => cases hk
  | cons c cells ih =>
    cases k with
    | zero => rfl
    | succ k => rw [List.map_cons, List.take_succ_cons, cellsEnd, if_pos rfl, ih _ (Nat.lt_of_succ_lt_succ hk)]

/-- The first bit that differs ends the attempt, by its cell and what was sent in it. -/
theorem cellsEnd_differs (i : Nat) (cells : List Cell) (later : List Bool) {k : Nat} (hk : k < cells.length) :
    cellsEnd i cells ((cells.map Cell.asSent).take k ++ (!(cells.map Cell.asSent).getD k false) :: later) = some (
      if 1 ≤ i + k ∧ i + k ≤ 8 ∧ (cells.map Cell.asSent).getD k false = true then .arbitrationLost else .attemptAbandoned) := by
  induction cells generalizing i k with
  | nil => cases hk
  | cons c cells ih =>
    cases k with
    | zero =>
      have hdiffers : (!c.asSent) ≠ c.asSent := by cases c.asSent <;> decide
      rw [List.map_cons, List.take_zero, List.nil_append, List.getD_cons_zero, cellsEnd, if_neg hdiffers, Nat.add_zero, apply_ite some]
      simp only [Cell.asSent_eq_true]
    | succ k =>
      rw [List.map_cons, List.take_succ_cons, List.getD_cons_succ, List.cons_append, cellsEnd, if_pos rfl,
        ih _ (Nat.lt_of_succ_lt_succ hk), show i + 1 + k = i + (k + 1) by omega]

theorem attemptEnd_of_attempt (ha : s.bl.attempt = some a) (bits : List Bool) :
    s.attemptEnd bits = cellsEnd 0 (a.frame.cells s.image.station) bits := by
  rw [State.attemptEnd, if_pos (by rw [ha]; rfl), State.cellsInFlight, ha]

end

/-- Settles O57: the start by the slots, each end by its command, and the command by the bits read back. -/
theorem attemptsMade : Obligations.AttemptsMade := by
  intro s
  refine ⟨fun hp hm ha hl => ?_, fun h => exec_attemptStart_of_not ?_, exec_arbitrationLost s, fun ha => ⟨?_, ?_⟩,
    exec_attemptAbandoned_below, fun ha hn => ?_, fun a ha => ?_, fun ha bits => ?_, fun a ha => ?_⟩
  · intro start
    refine ⟨fun l hc => exec_attemptStart_of_frame hp hm ha hl ?_ ?_, fun k hc hk => exec_attemptStart_of_frame hp hm ha hl ?_ ?_,
      fun hc hk han => exec_attemptStart_of_frame hp hm ha hl ?_ ?_, fun hc hk han => exec_attemptStart_of_not ?_⟩
    · simp [Bank.anyPending, hc]
    · unfold State.nextFrame; rw [hc]
    · simp [Bank.anyPending, hk]
    · unfold State.nextFrame; rw [hc, hk]
    · simp [Bank.anyPending, han]
    · unfold State.nextFrame; rw [hc, hk] <;> rfl
    · rw [mayAttempt_iff]
      simp [Bank.anyPending, hc, hk, han]
  · rw [mayAttempt_iff]
    rintro ⟨hp, hm, ha, -, hl⟩
    rcases h with h | h | h | h
    · exact h hp
    · rw [hm] at h; cases h
    · rw [ha] at h; cases h
    · exact h hl
  · exact congrArg Host.Outcome.next (if_neg (by rw [ha]; nofun))
  · show Host.Outcome.next _ = _
    rw [ha]
  · rw [exec_attemptAbandoned_eighth ha hn]
    rfl
  · intro ended
    obtain ⟨frame, replaced⟩ := a
    rw [exec_transmitCompletion ha]
    refine ⟨fun b hb => ⟨_, rfl, ?_⟩, fun l hl hr => ?_, fun l o hlo hr => ?_, fun hk hr => ?_⟩
    · cases hb
      obtain ⟨hrest, hpulse, hevents, hheld, hslot⟩ := completeAnnounce_spec b ended
      have hgrant (p : Supply) : ended.computedGrant p = s.computedGrant p := computedGrant_congr rfl p
      rw [hgrant, hgrant] at hslot
      refine ⟨hrest, hpulse, hevents, completeAnnounce_capSeen b ended, ?_, ?_, hslot⟩
      · rw [← hgrant]; exact hheld .heater
      · rw [← hgrant]; exact hheld .purge
    · cases hl; cases hr
      intro fresh
      refine congrArg Host.Outcome.next ?_
      show { ended with bl := { ended.bl with curtailSlot := none }, bu := { ended.bu with collection := ended.startCollection l } } = _
      rw [startCollection_eq]
      rfl
    · cases hlo; cases hr; rfl
    · cases hr
      rcases hk with ⟨l, hl⟩ | ⟨l, o, hlo⟩
      · cases hl; rfl
      · cases hlo; rfl
  · rw [State.attemptEnd, if_neg (by rw [ha]; nofun)]
  · simp only [attemptEnd_of_attempt ha]
    have hlen : ((a.frame.cells s.image.station).map Cell.asSent).length = (a.frame.cells s.image.station).length :=
      List.length_map _
    refine ⟨cellsEnd_sent 0 _, fun i hi => ⟨cellsEnd_take 0 _ (hlen ▸ hi), fun later => ?_⟩⟩
    have hend := cellsEnd_differs 0 (a.frame.cells s.image.station) later (hlen ▸ hi)
    rwa [Nat.zero_add] at hend

end Sys2Proof.Machine
end
